-- ==== Sys2Proof/Word.lean ====
section
/-! DEFINITION. The bit-level types of the block (spec 00_scope.md R9) and the two word formats a script holds
(30_encoding.md R90). -/

namespace Sys2Proof

/-- A line level, one bit: `true` = 1 = high = mark, `false` = 0 = low = space (R9). -/
abbrev Level := Bool

/-- A data byte: the operand of `SEND`, the Command Register (R34, R68). -/
abbrev Byte := BitVec 8

/-- The ten-bit shift patterns of `TXSR` and `RXSR` (R92, R94). -/
abbrev Pattern := BitVec 10

/-- One word of a stimulus script (R90): a 32-bit stimulus word (R101), or one of the ten-bit patterns of
opcode_table.json in two bytes, its bits 15 to 10 zero. -/
inductive ScriptWord where
  | stimulus (w : BitVec 32)
  | pattern (w : BitVec 16)
deriving DecidableEq, Repr

end Sys2Proof
end

