-- ==== Sys2Proof/Config.lean ====
section
/-! DEFINITION. The parameters of spec 00_scope.md R7 and R8, as plain data, and the one free value of the model.
The parameters stand in `State.cfg` (log 1), so that every statement about a state holds for every configuration. -/

namespace Sys2Proof

/-- What a command makes the host do besides answering (44_command_dispatcher.md R202; log 16). -/
inductive HostAction where
  | idle
  | toggleLed
deriving DecidableEq, Repr

/-- One row of the host's command table: the `CMD` value, the action, the response, whether it stays awake (R202). -/
structure CommandRow where
  code : Byte
  action : HostAction
  response : List Byte
  stayAwake : Bool
deriving DecidableEq, Repr

/-- The parameters of R7 that have no fixed value. `cmdTable` holds the further entries of `CMD_TABLE`, beyond the
two rows that R202 gives. -/
structure Config where
  cntW : Nat
  bitTime : Nat
  txFirstOffset : Nat
  cmdIdle : Byte
  cmdAux : Byte
  cmdTable : List CommandRow
  respInvalid : List Byte
  wakeLatched : Bool
deriving DecidableEq, Repr

namespace Config

/-- `DATA_BITS` (R7, fixed). -/
def dataBits : Nat := 8

/-- `FRAME_BITS` (R7, fixed; R8: start, data, stop). -/
def frameBits : Nat := 1 + dataBits + 1

/-- `2^CNT_W`, the number of values of the counter (R21). -/
def modulus (c : Config) : Nat := 2 ^ c.cntW

/-- `HALF_BIT = floor(BIT_TIME / 2)` (R7, R8; 92_eei_decisions.md D4). -/
def halfBit (c : Config) : Nat := c.bitTime / 2

/-- The width of a counter operand in a stimulus word: 16 bits, more for a wider counter (30_encoding.md R101; log 17). -/
def operandWidth (c : Config) : Nat := max 16 c.cntW

/-- The code of the command `'r'`, 0x72 (30_encoding.md R97; log 27). -/
def cmdToggle : Byte := 0x72#8

/-- A response ends in carriage return, line feed (R202). -/
def endsCrLf (response : List Byte) : Bool := [0x0D#8, 0x0A#8].isSuffixOf response

/-- The constraints on the command table: it has rows for `'r'` and `CMD_AUX`, which may be one value (30_encoding.md
R96), none for 0x00, and one further row a value (R7; log 16). -/
def tableValid (c : Config) : Bool :=
  decide (0x00#8 :: cmdToggle :: c.cmdTable.map CommandRow.code).Nodup &&
    decide (0x00#8 :: c.cmdAux :: c.cmdTable.map CommandRow.code).Nodup &&
      c.cmdTable.all fun r => endsCrLf r.response

/-- The constraints of R7 and R8; `TX_FIRST_OFFSET` is an offset of `SCHEDULE_NEXT`, below `2^CNT_W` and never 0
(40_bit_clock.md R123; log 28). A configuration that breaks one has no meaning: `step` refuses it (log 29). -/
def valid (c : Config) : Bool :=
  decide (2 ≤ c.cntW) && decide (2 ≤ c.bitTime) && decide (c.bitTime < c.modulus) &&
    decide (1 ≤ c.txFirstOffset) && decide (c.txFirstOffset < c.modulus) &&
    decide (c.cmdIdle ≠ c.cmdAux) && c.tableValid && endsCrLf c.respInvalid

/-- The example values of 95_test_vectors.md (`BIT_TIME = 4` is the one of its programs P1 to P4, `TX_FIRST_OFFSET` the
decided one), which `State.reset` carries. DESIGN CHOICE (log 1): the spec leaves these parameters OPEN; no statement rests
on this configuration. -/
def example95 : Config where
  cntW := 16
  bitTime := 4
  txFirstOffset := 4
  cmdIdle := 0xE0#8
  cmdAux := 0xE1#8
  cmdTable := []
  respInvalid := [0x3F#8, 0x3F#8, 0x0D#8, 0x0A#8]
  wakeLatched := false

/-- The free value: the `n`-th value the spec leaves unspecified ("a draw", 10_state.md R40) when the environment
supplies none in `State.draws`. It has no body, so nothing can be proved of it (log 5). -/
opaque freeValue : Nat → Nat

end Config

end Sys2Proof
end

