-- ==== Sys2Proof/Syntax.lean ====
section
/-! DEFINITION. The operations of the block, one constructor per row of spec/opcode_table.json (30_encoding.md R100,
R102). -/

namespace Sys2Proof

/-- The two compare channels of the Bit Clock (40_bit_clock.md R127), `c` of R102. -/
inductive Channel where
  | tx
  | rx
deriving DecidableEq, Repr

/-- The edge polarity of `CONFIGURE_EDGE_INTERRUPT` (45_collaborators.md R222). -/
inductive Edge where
  | falling
  | rising
deriving DecidableEq, Repr

/-- "Instruction" is operation (00_scope.md R3). The fields are the operand fields of R102; the trim value itself is
opaque and read by no rule (R224), so `init` carries its presence only. -/
inductive Instr where
  /-- `POR` (R280). -/
  | por
  /-- `INIT` (R281): trim present, `rxd`, `aux`. -/
  | init (trimPresent : Bool) (rxd aux : Level)
  /-- `SEND` (R140). -/
  | send (byte : Byte)
  /-- `STATUS_READ` (R142). -/
  | statusRead
  /-- `CMD_READ` (R203). -/
  | cmdRead
  /-- `CMD_CLEAR` (R204). -/
  | cmdClear
  /-- `TICK` (R120): the line levels, and whether `other` is non-empty. -/
  | tick (rxd aux : Level) (other : Bool)
  /-- `SCHEDULE_NEXT` (R123). -/
  | scheduleNext (c : Channel) (offset : Nat)
  /-- `RESCHEDULE` (R124). -/
  | reschedule (c : Channel) (period : Nat)
  /-- `DISABLE` (R125). -/
  | disable (c : Channel)
  /-- `FIRE` (R121). -/
  | fire (c : Channel)
  /-- `TX_STEP` (R141). -/
  | txStep
  /-- `RX_STEP` (R180): the sampled level. -/
  | rxStep (sample : Level)
  /-- `RX_EDGE` (R161). -/
  | rxEdge
  /-- `AUX_EDGE` (R162). -/
  | auxEdge
  /-- `OTHER_IRQ` (R163). -/
  | otherIrq
  /-- `READ_LINE` (R220). -/
  | readLine
  /-- `WRITE_LINE` (R221). -/
  | writeLine (level : Level)
  /-- `CONFIGURE_EDGE_INTERRUPT` (R222): the edge, and which of the two lines are in the set. -/
  | configureEdgeInterrupt (edge : Edge) (receiveLine auxLine : Bool)
  /-- `CLEAR_INTERRUPT_FLAGS` (R223). -/
  | clearInterruptFlags
  /-- `GET_CALIBRATED_TRIM` (R224). -/
  | getCalibratedTrim
  /-- `HOST_WAIT` (R200). -/
  | hostWait
  /-- `HOST_DISPATCH` (R201). -/
  | hostDispatch
  /-- The row `FRAME`: the wire frame of a byte (R91), "not an operation of the block". -/
  | frame (byte : Byte)
  /-- The row `TXSR_PATTERN`: the shift pattern of a byte (R92), "not an operation of the block". -/
  | txsrPattern (byte : Byte)
deriving DecidableEq, Repr

end Sys2Proof
end

