-- ==== Sys2Proof/WellFormed.lean ====
section
/-! DEFINITION. Which instructions have an encoding: every operand fits its field (30_encoding.md R101, R102). -/

namespace Sys2Proof

/-- A counter quantity fits its field of `width` bits, with the channel bit above it, inside the 24 operand bits. -/
def counterFits (width n : Nat) : Bool := decide (width ≤ 23) && decide (n < 2 ^ width)

/-- `i` has an encoding when the counter operand field is `width` bits wide (`Config.operandWidth`). Every other operand
is held in a type of its field's own width. -/
def Instr.wellFormed (width : Nat) (i : Instr) : Bool :=
  match i with
  | .scheduleNext _ n => counterFits width n
  | .reschedule _ n => counterFits width n
  | .por | .init .. | .send .. | .statusRead | .cmdRead | .cmdClear | .tick .. | .disable .. | .fire .. | .txStep
  | .rxStep .. | .rxEdge | .auxEdge | .otherIrq | .readLine | .writeLine .. | .configureEdgeInterrupt ..
  | .clearInterruptFlags | .getCalibratedTrim | .hostWait | .hostDispatch | .frame .. | .txsrPattern .. => true

end Sys2Proof
end

