-- ==== Sys2Proof/Decode.lean ====
section
/-! DEFINITION. The decoder of script words, total and rejecting what names no operation (30_encoding.md R101, R102),
and after it the encoder, written from the same tables. -/

namespace Sys2Proof

/-- The tag of a stimulus word, bits 31 to 24 (R101). -/
def tagOf (w : BitVec 32) : BitVec 8 := w.extractLsb' 24 8

/-- The operand of a stimulus word, bits 23 to 0 (R101). -/
def operandOf (w : BitVec 32) : BitVec 24 := w.extractLsb' 0 24

/-- The channel a bit names: 0 = TX, 1 = RX (R102). -/
def channelOf (b : Bool) : Channel := if b then .rx else .tx

/-- The edge a bit names: 0 = falling, 1 = rising (R102). -/
def edgeOf (b : Bool) : Edge := if b then .rising else .falling

/-- The low `width` bits of an operand: an offset or a period (R101). -/
def counterOf (width : Nat) (o : BitVec 24) : Nat := o.toNat % 2 ^ width

/-- A counter operand `n` with the channel bit right above its field (R101). A field of 24 bits or more leaves no room
for the channel bit: such a word names no operation (log 17). -/
def decodeCounter (width : Nat) (o : BitVec 24) (mk : Channel → Nat → Instr) : Option Instr :=
  if width ≤ 23 then some (mk (channelOf (o.getLsbD width)) (counterOf width o)) else none

/-- A stimulus word by its tag (R102). Unused operand bits are ignored; an unknown tag is refused (R101, R103). -/
def decodeStimulus (width : Nat) (w : BitVec 32) : Option Instr :=
  let o := operandOf w
  match tagOf w with
  | 0x00#8 => some .por
  | 0x01#8 => some (.init (o.getLsbD 0) (o.getLsbD 1) (o.getLsbD 2))
  | 0x02#8 => some (.send (o.extractLsb' 0 8))
  | 0x03#8 => some .statusRead
  | 0x04#8 => some .cmdRead
  | 0x05#8 => some .cmdClear
  | 0x10#8 => some (.tick (o.getLsbD 0) (o.getLsbD 1) (o.getLsbD 2))
  | 0x20#8 => decodeCounter width o .scheduleNext
  | 0x21#8 => decodeCounter width o .reschedule
  | 0x22#8 => some (.disable (channelOf (o.getLsbD 16)))
  | 0x23#8 => some (.fire (channelOf (o.getLsbD 16)))
  | 0x30#8 => some .txStep
  | 0x31#8 => some (.rxStep (o.getLsbD 0))
  | 0x32#8 => some .rxEdge
  | 0x33#8 => some .auxEdge
  | 0x34#8 => some .otherIrq
  | 0x40#8 => some .readLine
  | 0x41#8 => some (.writeLine (o.getLsbD 0))
  | 0x42#8 => some (.configureEdgeInterrupt (edgeOf (o.getLsbD 0)) (o.getLsbD 1) (o.getLsbD 2))
  | 0x43#8 => some .clearInterruptFlags
  | 0x44#8 => some .getCalibratedTrim
  | 0x50#8 => some .hostWait
  | 0x51#8 => some .hostDispatch
  | _ => none

/-- A pattern word: bit 9 of the table's string is its first character (log 19). `1hgfedcba0` is the register pattern,
`0abcdefgh1` the wire frame in time order, so its data bits stand reversed. -/
def decodePattern (p : BitVec 16) : Option Instr :=
  if p.extractLsb' 10 6 = 0#6 then
    match p.getLsbD 9, p.getLsbD 0 with
    | true, false => some (.txsrPattern (p.extractLsb' 1 8))
    | false, true => some (.frame (p.extractLsb' 1 8).reverse)
    | _, _ => none
  else none

/-- The decoder: `width` is the width of a counter operand (`Config.operandWidth`). -/
def decode (width : Nat) (w : ScriptWord) : Option Instr :=
  match w with
  | .stimulus s => decodeStimulus width s
  | .pattern p => decodePattern p

/-- The script word whose bits are `w`, from the number of bits the table gives its row: 32 for a stimulus word, the two
bytes of a ten-bit pattern otherwise. -/
def tableWord (nbits w : Nat) : ScriptWord :=
  if nbits ≤ 16 then .pattern (BitVec.ofNat 16 w) else .stimulus (BitVec.ofNat 32 w)

/-- What the decoder reads from the instruction whose bits are `w`, at the table's own operand width of 16. -/
def decodeTableWord (nbits w : Nat) : Option Instr :=
  decode 16 (tableWord nbits w)

/-! ### The encoder -/

/-- The bit a channel is written as (R102). -/
def Channel.bit (c : Channel) : Bool := match c with | .tx => false | .rx => true

/-- The bit an edge is written as (R102). -/
def Edge.bit (e : Edge) : Bool := match e with | .falling => false | .rising => true

/-- `tag[31:24] ‖ operand[23:0]` (R101). -/
def stimulusWord (tag : BitVec 8) (operand : BitVec 24) : ScriptWord := .stimulus (tag ++ operand)

/-- Three one-bit fields at operand bits 0, 1 and 2. -/
def bitsOperand (b0 b1 b2 : Bool) : BitVec 24 := BitVec.ofNat 24 (b0.toNat + 2 * b1.toNat + 4 * b2.toNat)

/-- A counter operand of `width` bits with the channel bit above it (R101). -/
def counterOperand (width : Nat) (c : Channel) (n : Nat) : BitVec 24 := BitVec.ofNat 24 (2 ^ width * c.bit.toNat + n)

/-- The channel bit of `DISABLE` and `FIRE`, operand bit 16 (R102). -/
def channelOperand (c : Channel) : BitVec 24 := BitVec.ofNat 24 (2 ^ 16 * c.bit.toNat)

/-- `1 ‖ v[7:0] ‖ 0`: the pattern of a byte, cell `k` at bit `k` (R92). -/
def framePattern (v : Byte) : Pattern := 1#1 ++ v ++ 0#1

/-- The cells of the wire frame in time order, cell 0 at bit 9 (R91). -/
def frameCells (v : Byte) : Pattern := 0#1 ++ v.reverse ++ 1#1

/-- The words of an instruction (R102). -/
def encode (width : Nat) (i : Instr) : ScriptWord :=
  match i with
  | .por => stimulusWord 0x00#8 0
  | .init p r a => stimulusWord 0x01#8 (bitsOperand p r a)
  | .send v => stimulusWord 0x02#8 (v.zeroExtend 24)
  | .statusRead => stimulusWord 0x03#8 0
  | .cmdRead => stimulusWord 0x04#8 0
  | .cmdClear => stimulusWord 0x05#8 0
  | .tick r a o => stimulusWord 0x10#8 (bitsOperand r a o)
  | .scheduleNext c n => stimulusWord 0x20#8 (counterOperand width c n)
  | .reschedule c n => stimulusWord 0x21#8 (counterOperand width c n)
  | .disable c => stimulusWord 0x22#8 (channelOperand c)
  | .fire c => stimulusWord 0x23#8 (channelOperand c)
  | .txStep => stimulusWord 0x30#8 0
  | .rxStep s => stimulusWord 0x31#8 (bitsOperand s false false)
  | .rxEdge => stimulusWord 0x32#8 0
  | .auxEdge => stimulusWord 0x33#8 0
  | .otherIrq => stimulusWord 0x34#8 0
  | .readLine => stimulusWord 0x40#8 0
  | .writeLine b => stimulusWord 0x41#8 (bitsOperand b false false)
  | .configureEdgeInterrupt e r a => stimulusWord 0x42#8 (bitsOperand e.bit r a)
  | .clearInterruptFlags => stimulusWord 0x43#8 0
  | .getCalibratedTrim => stimulusWord 0x44#8 0
  | .hostWait => stimulusWord 0x50#8 0
  | .hostDispatch => stimulusWord 0x51#8 0
  | .frame v => .pattern ((frameCells v).zeroExtend 16)
  | .txsrPattern v => .pattern ((framePattern v).zeroExtend 16)

end Sys2Proof
end

