-- ==== Sys2Proof/Machine/State.lean ====
section
/-! DEFINITION. The state of the machine as plain data: the block's registers (10_state.md R20), the host agent's state
(R41), the outputs of the last step, and the model's own fields (parameters, script, draws). -/

namespace Sys2Proof.Machine

/-- `MODE` (R35). -/
inductive Mode where
  | uninit
  | run
  | fatal
deriving DecidableEq, Repr

/-- The transmit registers of R76: `TXCMP`, `TXARM` (R22), `TXSR` (R25), `TXCNT` (R26), `TXBUSY` (R27), `TXD` (R28).
A counter value is a number below `2^CNT_W` (log 2). -/
structure TxRegs where
  cmp : Nat
  arm : Bool
  sr : Pattern
  cnt : BitVec 4
  busy : Bool
  txd : Level
deriving DecidableEq, Repr

/-- The receive registers of R76: `RXCMP`, `RXARM` (R23), `RXSR` (R31), `RXCNT` (R32), `RXACT` (R33), `RXIE` (R29),
`RXPREV` (R30). -/
structure RxRegs where
  cmp : Nat
  arm : Bool
  sr : Pattern
  cnt : BitVec 4
  act : Bool
  ie : Bool
  prev : Level
deriving DecidableEq, Repr

/-- `HOST` (R41). -/
inductive HostMode where
  | waiting
  | dispatching
deriving DecidableEq, Repr

/-- The host agent's state (R41): `HOST`, `LED`, the command byte read in this pass (none before it is read), the index
of the next response byte, whether the pulse of the last `TICK` found the host waiting and it has not acted on it yet
(R200; log 14), and the wake pulse remembered when `WAKE_LATCHED = true` (R200 (d)). -/
structure HostAgent where
  mode : HostMode
  led : Bool
  command : Option Byte
  index : Nat
  woken : Bool
  heldWake : Bool
deriving DecidableEq, Repr

/-- The oscillator trim value: opaque, no rule reads it (45_collaborators.md R224; log 22). -/
abbrev TrimValue := Nat

/-- What an operation returns (20_memory.md R61; log 20). `silent`: it returns nothing. -/
inductive Result where
  | silent
  | accepted (b : Bool)
  | txBusy (b : Bool)
  | cmd (v : Byte)
  | level (b : Level)
  | trim (t : Option TrimValue)
deriving DecidableEq, Repr

/-- The machine. `cfg` to `cmd` are the parameters and the block, `host` the host agent, `wake` the wake output of the
last `TICK` (R63; log 14), `result` what the last operation returned. The model's own fields: `script`, the stimulus
words still to run (R104; log 3); `draws`, the values the environment supplies for unspecified values, and `drawn`, how
many were drawn (log 5). -/
structure State where
  cfg : Config
  mode : Mode
  cnt : Nat
  tx : TxRegs
  rx : RxRegs
  auxIe : Bool
  auxPrev : Level
  cmd : Byte
  host : HostAgent
  wake : Bool
  result : Result
  script : List ScriptWord
  draws : List Nat
  drawn : Nat
deriving DecidableEq, Repr

/-- The reasons a step can stop with a fault: there is none. The block's one exception, `Fatal(NoCalibration)`, is taken
as the spec describes it (60_exceptions.md R244, R246), and no other operation can fault. -/
inductive Fault where
deriving DecidableEq, Repr

/-- The reasons a step refuses. All are safe: the model stops where it says nothing. -/
inductive Refusal where
  /-- Raised by `exec` for an instruction without a meaning: none is left. Safe. -/
  | notModelled (mnemonic : String)
  /-- Raised by `step`: the script holds no further operation, so no agent acts (log 3). Safe. -/
  | emptyScript
  /-- Raised by `step`: a script word that names no operation (30_encoding.md R101, R103). Safe. -/
  | unknownWord (w : ScriptWord)
  /-- Raised by `step`: the parameters break a constraint of 00_scope.md R8, "refused by the model" (log 29). Safe. -/
  | invalidConfig
  /-- Raised by the meanings of the rows `FRAME` and `TXSR_PATTERN`, which "are not operations" (R100; log 19). Safe. -/
  | notAnOperation (row : String)
deriving DecidableEq, Repr

/-- The machine right after power-on reset with the parameters `c`: `MODE` and the four arm and enable bits as R40 and
R280 say, and every value they leave unspecified 0 (DESIGN CHOICE, log 4); no script, no draws supplied. -/
def State.resetWith (c : Config) : State where
  cfg := c
  mode := .uninit
  cnt := 0
  tx := { cmp := 0, arm := false, sr := 0, cnt := 0, busy := false, txd := false }
  rx := { cmp := 0, arm := false, sr := 0, cnt := 0, act := false, ie := false, prev := false }
  auxIe := false
  auxPrev := false
  cmd := 0
  host := { mode := .waiting, led := false, command := none, index := 0, woken := false, heldWake := false }
  wake := false
  result := .silent
  script := []
  draws := []
  drawn := 0

/-- The machine right after reset, with the example parameters (log 1). -/
def State.reset : State := State.resetWith Config.example95

end Sys2Proof.Machine
end

