-- ==== Sys2Proof/Machine/Flags.lean ====
section
/-! DEFINITION. The tests on flags and counters: what raises an event (60_exceptions.md R240), when an engine is done, and
which mode admits an operation (10_state.md R35). -/

namespace Sys2Proof.Machine

/-- The fire test of a channel: armed, and the counter equal to the compare value (40_bit_clock.md R121). -/
def fires (arm : Bool) (cmp cnt : Nat) : Bool := arm && decide (cnt = cmp)

/-- A falling edge: 1 at the previous tick, 0 now (42_edge_detector.md R164). -/
def fallingEdge (prev level : Level) : Bool := prev && !level

/-- An accepted edge: the line's enable bit is 1 as well (R164). -/
def edgeAccepted (ie : Bool) (prev level : Level) : Bool := ie && fallingEdge prev level

/-- `TXCNT = 0`, tested before driving (41_transmit_engine.md R141). -/
def txDone (cnt : BitVec 4) : Bool := cnt == 0#4

/-- `RXCNT − 1 = 0`, tested after sampling (43_receive_engine.md R180). -/
def rxDone (cnt : BitVec 4) : Bool := cnt - 1#4 == 0#4

/-- `RXCNT − 1` would lie below zero, which R180 (f) leaves undefined: the injection is refused (log 9). -/
def rxUnderflows (cnt : BitVec 4) : Bool := cnt == 0#4

/-- `FAULT_IND = 1` exactly when `MODE = FATAL` (R36). -/
def State.faultInd (s : State) : Bool := s.mode == .fatal

/-- The edge configuration the block gives a meaning to: falling, both lines (45_collaborators.md R222). -/
def edgeConfigAdmitted (edge : Edge) (receiveLine auxLine : Bool) : Bool := edge == .falling && receiveLine && auxLine

end Sys2Proof.Machine
end

