-- ==== Sys2Proof/Machine/Operands.lean ====
section
/-! DEFINITION. The values operands and registers take: counter arithmetic (40_bit_clock.md R130), the shift patterns
(30_encoding.md R92, R94, R95) and the drawn values (10_state.md R40). -/

namespace Sys2Proof.Machine

/-- `(a + b) mod 2^CNT_W`: the carry is discarded (R130). -/
def counterAdd (c : Config) (a b : Nat) : Nat := (a + b) % c.modulus

/-- The next cell to drive, bit 0 of the transmit pattern (R25, R141). -/
def nextCell (sr : Pattern) : Level := sr.getLsbD 0

/-- The transmit shift: right by one, 0 enters bit 9 (R141; 92_eei_decisions.md D12). -/
def shiftOut (sr : Pattern) : Pattern := sr >>> 1

/-- The receive shift: the sample enters bit 9, the rest move down, `(s << 9) | (RXSR >> 1)` (R94). -/
def shiftIn (sample : Level) (sr : Pattern) : Pattern :=
  ((BitVec.ofBool sample).zeroExtend 10 <<< 9) ||| (sr >>> 1)

/-- The received byte, `RXSR[8:1]` (R95). -/
def receivedByte (sr : Pattern) : Byte := sr.extractLsb' 1 8

/-- The `k`-th next unspecified value: supplied by the environment in `draws`, or else the free value (log 5). -/
def drawAt (s : State) (k : Nat) : Nat :=
  match s.draws[k]? with
  | some d => d
  | none => Config.freeValue (s.drawn + k)

/-- A drawn bit. -/
def drawBit (s : State) (k : Nat) : Bool := decide (drawAt s k % 2 = 1)

/-- A drawn field of `w` bits. -/
def drawBits (w : Nat) (s : State) (k : Nat) : BitVec w := BitVec.ofNat w (drawAt s k)

/-- A drawn counter or compare value. -/
def drawCounter (s : State) (k : Nat) : Nat := drawAt s k % s.cfg.modulus

/-- A drawn value that may be absent. -/
def drawOption (s : State) (k : Nat) : Option Nat := if drawBit s k then some (drawAt s (k + 1)) else none

/-- `n` values have been drawn. -/
def skipDraws (n : Nat) (s : State) : State := { s with draws := s.draws.drop n, drawn := s.drawn + n }

end Sys2Proof.Machine
end

