-- ==== Sys2Proof/Machine/Ops.lean ====
section
/-! DEFINITION. The shared operations: how a step ends, the primitives that rules `call` (00_scope.md R10), the wake
output, the fatal trap, and the view of State as output ports. -/

namespace Sys2Proof.Machine

/-- What a meaning answers. -/
abbrev Answer := Host.Outcome State Fault Refusal

/-- The operation is done and returned `r`. -/
def answer (r : Result) (s : State) : Answer := .next { s with result := r }

/-- The operation is done and returns nothing. -/
def done (s : State) : Answer := answer .silent s

/-- `refuse` (R10): the operation changes no state and produces no pulse (20_memory.md R66; log 6). -/
def refuse (s : State) : Answer := answer .silent s

/-- An internal step, injected: in `FATAL` every operation except `POR` is refused (60_exceptions.md R246); the internal
rules test no other mode (log 10). -/
def injected (f : State → State) (s : State) : Answer :=
  if s.mode = .fatal then refuse s else done (f s)

/-- `cCMP <- v ; cARM <- 1`. -/
def armAt (c : Channel) (v : Nat) (s : State) : State :=
  match c with
  | .tx => { s with tx.cmp := v, tx.arm := true }
  | .rx => { s with rx.cmp := v, rx.arm := true }

/-- `cCMP` (R22, R23). -/
def compareOf (c : Channel) (s : State) : Nat := match c with | .tx => s.tx.cmp | .rx => s.rx.cmp

/-- `SCHEDULE_NEXT(c, offset)`: `offset` ticks from the running counter (40_bit_clock.md R123). -/
def scheduleNext (c : Channel) (offset : Nat) (s : State) : State := armAt c (counterAdd s.cfg s.cnt offset) s

/-- `RESCHEDULE(c, period)`: one period after the compare value that fired (R124). -/
def reschedule (c : Channel) (period : Nat) (s : State) : State :=
  armAt c (counterAdd s.cfg (compareOf c s) period) s

/-- `DISABLE(c)`: only the arm bit is cleared (R125). A fire clears it too (R121). -/
def disable (c : Channel) (s : State) : State :=
  match c with
  | .tx => { s with tx.arm := false }
  | .rx => { s with rx.arm := false }

/-- `READ_LINE` inside a tick: the receive-line level sampled for the tick, not inverted (45_collaborators.md R220). -/
def readLine (rxd : Level) : Level := rxd

/-- `WRITE_LINE(b)`: `TXD <- b` (R221). -/
def writeLine (b : Level) (s : State) : State := { s with tx.txd := b }

/-- `CLEAR_INTERRUPT_FLAGS`: no register changes (R223). -/
def clearInterruptFlags (s : State) : State := s

/-- `CONFIGURE_EDGE_INTERRUPT`: arms both detections; any other argument is refused (R222). -/
def configureEdgeInterrupt (edge : Edge) (receiveLine auxLine : Bool) (s : State) : State :=
  if edgeConfigAdmitted edge receiveLine auxLine then { s with rx.ie := true, auxIe := true } else s

/-- `emit wake` (20_memory.md R63). A waiting host is woken by the pulse. On a dispatching one it is lost, or remembered
when `WAKE_LATCHED = true` (44_command_dispatcher.md R200 (d); log 14, log 15). -/
def emitWake (s : State) : State :=
  { s with wake := true,
           host.woken := s.host.woken || s.host.mode == .waiting,
           host.heldWake := s.host.heldWake || (s.cfg.wakeLatched && s.host.mode == .dispatching) }

/-- No pulse is pending: no `TICK` has happened yet (log 14). -/
def noPulse (s : State) : State := { s with wake := false, host.woken := false }

/-- How many values `unspecify` draws. -/
def unspecifiedDraws : Nat := 14

/-- What 10_state.md R40 says of every register after `POR` and after `INIT(none)` alike: the four arm and enable bits
0, every other register of the block, and `LED`, a draw (log 5, log 31). -/
def unspecify (s : State) : State :=
  { skipDraws unspecifiedDraws s with
    cnt := drawCounter s 0
    tx := { cmp := drawCounter s 1, arm := false, sr := drawBits 10 s 2, cnt := drawBits 4 s 3, busy := drawBit s 4,
            txd := drawBit s 5 }
    rx := { cmp := drawCounter s 6, arm := false, sr := drawBits 10 s 7, cnt := drawBits 4 s 8, act := drawBit s 9,
            ie := false, prev := drawBit s 10 }
    auxIe := false
    auxPrev := drawBit s 11
    cmd := drawBits 8 s 12
    host.led := drawBit s 13 }

/-- Taking the one exception, `raise Fatal(NoCalibration)` (60_exceptions.md R246): `FATAL`, the four arm and enable bits
0, nothing is saved and no handler is entered. The registers it does not write are unspecified after it, which "does not
mean unchanged" (10_state.md R40; log 31). There is no return from it or from an event (R248): only `POR` leaves `FATAL`. -/
def raiseFatal (s : State) : State := { unspecify s with mode := .fatal }

/-- The output ports of 20_memory.md R62. -/
structure Ports where
  sendAck : Bool
  txBusy : Bool
  cmd : Byte
  txd : Level
  wake : Bool
  faultInd : Bool
deriving DecidableEq, Repr

/-- The output ports as a view of the state (R62): `send_ack` is the `accepted` result of the last operation. -/
def State.ports (s : State) : Ports where
  sendAck := s.result == .accepted true
  txBusy := s.tx.busy
  cmd := s.cmd
  txd := s.tx.txd
  wake := s.wake
  faultInd := s.faultInd

end Sys2Proof.Machine
end

