-- ==== Sys2Proof/Machine/EdgeDetector.lean ====
section
/-! DEFINITION. The Line Edge Detector: `RX_EDGE`, `AUX_EDGE`, `OTHER_IRQ` (42_edge_detector.md). -/

namespace Sys2Proof.Machine

/-- `RX_EDGE` (R161): the start of an incoming frame. -/
def rxEdge (s : State) : State :=
  let s := clearInterruptFlags s
  let s := { s with rx.ie := false }
  let s := scheduleNext .rx s.cfg.halfBit s
  { s with rx.cnt := 10#4, rx.sr := 0#10, rx.act := true }

/-- `AUX_EDGE` (R162): the Receive Engine is not touched and the detection stays armed. -/
def auxEdge (s : State) : State :=
  let s := clearInterruptFlags s
  emitWake { s with cmd := s.cfg.cmdAux }

/-- `OTHER_IRQ` (R163): acknowledged and otherwise ignored. -/
def otherIrq (s : State) : State := clearInterruptFlags s

/-- `RX_EDGE` (R161), injected. -/
def execRxEdge (s : State) : Answer := injected rxEdge s

/-- `AUX_EDGE` (R162), injected. -/
def execAuxEdge (s : State) : Answer := injected auxEdge s

/-- `OTHER_IRQ` (R163), injected. -/
def execOtherIrq (s : State) : Answer := injected otherIrq s

end Sys2Proof.Machine
end

