-- ==== Sys2Proof/Machine/ReceiveEngine.lean ====
section
/-! DEFINITION. The Receive Engine: `RX_STEP` (43_receive_engine.md). -/

namespace Sys2Proof.Machine

/-- The four completion actions (R180), with the Receive Slot released. No framing check is made. -/
def rxComplete (s : State) : State :=
  let s := disable .rx s
  emitWake { s with cmd := receivedByte s.rx.sr, rx.ie := true, rx.act := false }

/-- `RX_STEP` on the level sampled at this tick (R180). With `RXCNT = 0` it is refused: nothing changes (R180 (f); log 9). -/
def rxStep (rxd : Level) (s : State) : State :=
  if rxUnderflows s.rx.cnt then s
  else
    let s := reschedule .rx s.cfg.bitTime s
    let last := rxDone s.rx.cnt
    let s := { s with rx.sr := shiftIn (readLine rxd) s.rx.sr, rx.cnt := s.rx.cnt - 1#4 }
    if last then rxComplete s else s

/-- `RX_STEP` (R180), injected with its sample. -/
def execRxStep (sample : Level) (s : State) : Answer := injected (rxStep sample) s

end Sys2Proof.Machine
end

