-- ==== Sys2Proof/Machine/TransmitEngine.lean ====
section
/-! DEFINITION. The Transmit Engine: `SEND`, `TX_STEP`, `STATUS_READ` (41_transmit_engine.md). -/

namespace Sys2Proof.Machine

/-- The accepting branch of `SEND` (R140). `TXD` is not written. -/
def loadFrame (byte : Byte) (s : State) : State :=
  scheduleNext .tx s.cfg.txFirstOffset { s with tx.sr := framePattern byte, tx.cnt := 10#4, tx.busy := true }

/-- `SEND` in `RUN`: test and set of the busy flag in one step (R140, 20_memory.md R74). -/
def sendByte (byte : Byte) (s : State) : State := if s.tx.busy then s else loadFrame byte s

/-- `TX_STEP` (R141). -/
def txStep (s : State) : State :=
  let s := reschedule .tx s.cfg.bitTime s
  if txDone s.tx.cnt then
    let s := disable .tx s
    { s with tx.busy := false }
  else
    let s := writeLine (nextCell s.tx.sr) s
    { s with tx.sr := shiftOut s.tx.sr, tx.cnt := s.tx.cnt - 1#4 }

/-- `SEND` (R140): refused silently outside `RUN`, with `accepted = 0` while busy. -/
def execSend (byte : Byte) (s : State) : Answer :=
  if s.mode = .run then answer (.accepted (!s.tx.busy)) (sendByte byte s) else refuse s

/-- `TX_STEP` (R141), injected. -/
def execTxStep (s : State) : Answer := injected txStep s

/-- `STATUS_READ` (R142): no side effect. A refused read returns an unspecified value (30_encoding.md R103; log 7). -/
def execStatusRead (s : State) : Answer :=
  if s.mode = .run then answer (.txBusy s.tx.busy) s else answer (.txBusy (drawBit s 0)) (skipDraws 1 s)

end Sys2Proof.Machine
end

