-- ==== Sys2Proof/Machine/BitClock.lean ====
section
/-! DEFINITION. The Bit Clock: `TICK`, `FIRE`, `SCHEDULE_NEXT`, `RESCHEDULE`, `DISABLE` (40_bit_clock.md). -/

namespace Sys2Proof.Machine

/-- `FIRE(c)` (R121): the arm bit is cleared, then the owning engine's step function runs. -/
def fire (c : Channel) (rxd : Level) (s : State) : State :=
  match c with
  | .tx => txStep (disable .tx s)
  | .rx => rxStep rxd (disable .rx s)

/-- `TICK` step 1, with `wake <- 0` (R120): a pulse of the tick before is over, for the host too (log 14). -/
def tickCount (s : State) : State := { noPulse s with cnt := counterAdd s.cfg s.cnt 1 }

/-- `TICK` step 2 (R120). -/
def tickTx (rxd : Level) (s : State) : State := if fires s.tx.arm s.tx.cmp s.cnt then fire .tx rxd s else s

/-- `TICK` step 3 (R120). -/
def tickRx (rxd : Level) (s : State) : State := if fires s.rx.arm s.rx.cmp s.cnt then fire .rx rxd s else s

/-- `TICK` step 4 (R120). -/
def tickRxEdge (rxd : Level) (s : State) : State := if edgeAccepted s.rx.ie s.rx.prev rxd then rxEdge s else s

/-- `TICK` step 5 (R120). -/
def tickAuxEdge (aux : Level) (s : State) : State := if edgeAccepted s.auxIe s.auxPrev aux then auxEdge s else s

/-- `TICK` step 6 (R120): the sources' identity and number are not used (R163; log 25). -/
def tickOther (other : Bool) (s : State) : State := if other then otherIrq s else s

/-- `TICK` step 7 (R120). -/
def tickPrev (rxd aux : Level) (s : State) : State := { s with rx.prev := rxd, auxPrev := aux }

/-- `TICK` in `RUN`: the seven steps in the order of R120. -/
def tick (rxd aux : Level) (other : Bool) (s : State) : State :=
  tickPrev rxd aux (tickOther other (tickAuxEdge aux (tickRxEdge rxd (tickRx rxd (tickTx rxd (tickCount s))))))

/-- `TICK` (R120): refused outside `RUN`, returning `wake = 0` (R132). Its result is the `wake` output. -/
def execTick (rxd aux : Level) (other : Bool) (s : State) : Answer :=
  if s.mode = .run then done (tick rxd aux other s) else refuse { s with wake := false }

/-- `SCHEDULE_NEXT` (R123), injected. -/
def execScheduleNext (c : Channel) (offset : Nat) (s : State) : Answer := injected (scheduleNext c offset) s

/-- `RESCHEDULE` (R124), injected. -/
def execReschedule (c : Channel) (period : Nat) (s : State) : Answer := injected (reschedule c period) s

/-- `DISABLE` (R125), injected. -/
def execDisable (c : Channel) (s : State) : Answer := injected (disable c) s

/-- `FIRE` (R121), injected. Outside a tick the receive line has no sampled level: `RX_STEP` gets a drawn one
(45_collaborators.md R220; log 8). -/
def execFire (c : Channel) (s : State) : Answer :=
  match c with
  | .tx => injected (fire .tx false) s
  | .rx => injected (fun s => fire .rx (drawBit s 0) (skipDraws 1 s)) s

end Sys2Proof.Machine
end

