-- ==== Sys2Proof/Machine/Collaborators.lean ====
section
/-! DEFINITION. The external-interface operations, injected on their own (45_collaborators.md). -/

namespace Sys2Proof.Machine

/-- `READ_LINE` outside a `TICK` has no defined value: it returns a drawn level (R220, 93 U27; log 8). -/
def execReadLine (s : State) : Answer := answer (.level (drawBit s 0)) (skipDraws 1 s)

/-- `WRITE_LINE` (R221). -/
def execWriteLine (b : Level) (s : State) : Answer := injected (writeLine b) s

/-- `CONFIGURE_EDGE_INTERRUPT` (R222). -/
def execConfigureEdgeInterrupt (edge : Edge) (receiveLine auxLine : Bool) (s : State) : Answer :=
  injected (configureEdgeInterrupt edge receiveLine auxLine) s

/-- `CLEAR_INTERRUPT_FLAGS` (R223). -/
def execClearInterruptFlags (s : State) : Answer := injected clearInterruptFlags s

/-- `GET_CALIBRATED_TRIM` (R224): a free answer of the platform, `some t` or `none` (log 22). -/
def execGetCalibratedTrim (s : State) : Answer := answer (.trim (drawOption s 0)) (skipDraws 2 s)

end Sys2Proof.Machine
end

