-- ==== Sys2Proof/Machine/HostAgent.lean ====
section
/-! DEFINITION. The mailbox operations `CMD_READ`, `CMD_CLEAR`, and the host agent `HOST_WAIT`, `HOST_DISPATCH`
(44_command_dispatcher.md). -/

namespace Sys2Proof.Machine

/-- `CMD_READ` (R203): no side effect. A refused read returns an unspecified value (30_encoding.md R103; log 7). -/
def execCmdRead (s : State) : Answer :=
  if s.mode = .run then answer (.cmd s.cmd) s else answer (.cmd (drawBits 8 s 0)) (skipDraws 1 s)

/-- `CMD <- CMD_IDLE` (R204). -/
def clearCmd (s : State) : State := { s with cmd := s.cfg.cmdIdle }

/-- `CMD_CLEAR` (R204). -/
def execCmdClear (s : State) : Answer := if s.mode = .run then done (clearCmd s) else refuse s

/-- "Toggled Red LED." CR LF (R205). -/
def respToggled : List Byte :=
  [0x54#8, 0x6F#8, 0x67#8, 0x67#8, 0x6C#8, 0x65#8, 0x64#8, 0x20#8, 0x52#8, 0x65#8, 0x64#8, 0x20#8, 0x4C#8, 0x45#8,
   0x44#8, 0x2E#8, 0x0D#8, 0x0A#8]

/-- "Button Pressed!!" CR LF (R205). -/
def respButton : List Byte :=
  [0x42#8, 0x75#8, 0x74#8, 0x74#8, 0x6F#8, 0x6E#8, 0x20#8, 0x50#8, 0x72#8, 0x65#8, 0x73#8, 0x73#8, 0x65#8, 0x64#8,
   0x21#8, 0x21#8, 0x0D#8, 0x0A#8]

/-- The command table `lookup` (R202): the two documented rows, the further OPEN rows, and `RESP_INVALID` for every value
outside the table. A byte that equals the sentinel has the sentinel's meaning (30_encoding.md R96), also if it is `'r'`. -/
def lookup (c : Config) (v : Byte) : CommandRow :=
  if v = c.cmdAux then { code := v, action := .idle, response := respButton, stayAwake := false }
  else if v = Config.cmdToggle then { code := v, action := .toggleLed, response := respToggled, stayAwake := false }
  else
    match c.cmdTable.find? fun r => r.code == v with
    | some r => r
    | none => { code := v, action := .idle, response := c.respInvalid, stayAwake := false }

/-- `perform action` (R201): `LED <- 1 − LED`, or nothing. -/
def perform (a : HostAction) (s : State) : State :=
  match a with
  | .idle => s
  | .toggleLed => { s with host.led := !s.host.led }

/-- The first host operation of a dispatch pass (R201): the command byte is read once, looked up, its action performed. -/
def dispatchRead (s : State) : Answer :=
  answer (.cmd s.cmd) (perform (lookup s.cfg s.cmd).action { s with host.command := some s.cmd, host.index := 0 })

/-- One attempt of `send_blocking` for the next response byte (R201, 30_encoding.md R106): a busy slot leaves the state as
it is, and the next `HOST_DISPATCH` tries again. -/
def dispatchSend (byte : Byte) (s : State) : Answer :=
  if s.tx.busy then answer (.accepted false) s
  else answer (.accepted true) { loadFrame byte s with host.index := s.host.index + 1 }

/-- Back to `WAITING`, or one more pass for a remembered wake pulse (R200 (d); log 15). -/
def enterWaiting (s : State) : State :=
  if s.host.heldWake then { s with host.heldWake := false } else { s with host.mode := .waiting }

/-- The last host operation of a pass (R201): `CMD_CLEAR`, then waiting unless the action stays awake. -/
def dispatchClear (stayAwake : Bool) (s : State) : Answer :=
  let s := clearCmd { s with host.command := none, host.index := 0 }
  done (if stayAwake then s else enterWaiting s)

/-- `HOST_DISPATCH` (R201): the next host operation of the pass, since the pass "is not one atomic step" (log 11). The
host's steps are refused outside `RUN`, where it is not in its loop, and while it waits (log 12, log 13). -/
def execHostDispatch (s : State) : Answer :=
  if s.mode = .run ∧ s.host.mode = .dispatching then
    match s.host.command with
    | none => dispatchRead s
    | some v =>
      match (lookup s.cfg v).response[s.host.index]? with
      | some byte => dispatchSend byte s
      | none => dispatchClear (lookup s.cfg v).stayAwake s
  else refuse s

/-- `HOST_WAIT` (R200): a waiting host starts dispatching when the last tick's `wake` was 1 and found it waiting; otherwise
nothing. A pulse that came while it was dispatching is lost to it (R200 (d)). -/
def execHostWait (s : State) : Answer :=
  if s.mode = .run then
    if s.host.mode = .waiting ∧ s.host.woken then
      done { s with host.mode := .dispatching, host.command := none, host.index := 0, host.woken := false }
    else done s
  else refuse s

end Sys2Proof.Machine
end

