-- ==== Sys2Proof/Machine/Lifecycle.lean ====
section
/-! DEFINITION. Power-on reset and the startup sequence: `POR`, `INIT` (70_reset_and_hazards.md). -/

namespace Sys2Proof.Machine

/-- How many values `POR` draws for the host, beyond `unspecify`. -/
def hostDraws : Nat := 5

/-- The host's own state before it reaches its loop is a draw (10_state.md R40, R41). -/
def unspecifyHost (s : State) : State :=
  { skipDraws hostDraws s with
    host := { s.host with mode := if drawBit s 0 then .dispatching else .waiting,
                          command := (drawOption s 1).map (BitVec.ofNat 8), index := drawAt s 3, heldWake := drawBit s 4 } }

/-- `POR` (R280): `UNINIT`, nothing armed, every other register of the block and of the host drawn (10_state.md R40).
No tick has happened since, so no pulse is pending (log 14). -/
def powerOn (s : State) : State := noPulse { unspecifyHost (unspecify s) with mode := .uninit }

/-- `POR` (R280), accepted in every mode. -/
def execPor (s : State) : Answer := done (powerOn s)

/-- The host enters its loop in `WAITING` (R282 step 5, 10_state.md R40), with no pulse of an earlier life pending
(log 12, log 14). `LED` keeps its unspecified level. -/
def hostEntersLoop (s : State) : State :=
  noPulse { s with host.mode := .waiting, host.command := none, host.index := 0, host.heldWake := false }

/-- `INIT(some t, rxd, aux)` (R281). `CNT`, `TXCMP` and `RXCMP` keep their unspecified values. -/
def startUp (rxd aux : Level) (s : State) : State :=
  let s := disable .rx (disable .tx { s with mode := .run })
  let s := writeLine true { s with tx.sr := 0#10, tx.cnt := 0#4, tx.busy := false }
  let s := { s with rx.sr := 0#10, rx.cnt := 0#4, rx.act := false, cmd := s.cfg.cmdIdle }
  let s := { s with rx.prev := rxd, auxPrev := aux }
  hostEntersLoop (configureEdgeInterrupt .falling true true s)

/-- `INIT` (R281): accepted in `UNINIT` only; without a trim it raises the fatal trap. -/
def execInit (trimPresent : Bool) (rxd aux : Level) (s : State) : Answer :=
  if s.mode = .uninit then
    if trimPresent then done (startUp rxd aux s) else done (noPulse (raiseFatal s))
  else refuse s

end Sys2Proof.Machine
end

