-- ==== Sys2Proof/Machine/Patterns.lean ====
section
/-! DEFINITION. The two pattern rows of opcode_table.json: "they are not operations" (30_encoding.md R100; log 19). The
patterns themselves are `frameCells` and `framePattern` (Decode.lean), which `SEND` loads. -/

namespace Sys2Proof.Machine

/-- The row `FRAME` (R91) names no operation: refused by name. -/
def execFrame (_ : Byte) (_ : State) : Answer := .refused (.notAnOperation "FRAME")

/-- The row `TXSR_PATTERN` (R92) names no operation: refused by name. -/
def execTxsrPattern (_ : Byte) (_ : State) : Answer := .refused (.notAnOperation "TXSR_PATTERN")

end Sys2Proof.Machine
end

