-- ==== Sys2Proof/Machine/Dispatch.lean ====
section
/-! DEFINITION. One arm per operation. -/

namespace Sys2Proof.Machine

def exec (i : Instr) (s : State) : Host.Outcome State Fault Refusal :=
  match i with
  | .por => Sys2Proof.Machine.execPor s
  | .init p r a => Sys2Proof.Machine.execInit p r a s
  | .send d => Sys2Proof.Machine.execSend d s
  | .statusRead => Sys2Proof.Machine.execStatusRead s
  | .cmdRead => Sys2Proof.Machine.execCmdRead s
  | .cmdClear => Sys2Proof.Machine.execCmdClear s
  | .tick r a o => Sys2Proof.Machine.execTick r a o s
  | .scheduleNext c n => Sys2Proof.Machine.execScheduleNext c n s
  | .reschedule c n => Sys2Proof.Machine.execReschedule c n s
  | .disable c => Sys2Proof.Machine.execDisable c s
  | .fire c => Sys2Proof.Machine.execFire c s
  | .txStep => Sys2Proof.Machine.execTxStep s
  | .rxStep b => Sys2Proof.Machine.execRxStep b s
  | .rxEdge => Sys2Proof.Machine.execRxEdge s
  | .auxEdge => Sys2Proof.Machine.execAuxEdge s
  | .otherIrq => Sys2Proof.Machine.execOtherIrq s
  | .readLine => Sys2Proof.Machine.execReadLine s
  | .writeLine b => Sys2Proof.Machine.execWriteLine b s
  | .configureEdgeInterrupt e r a => Sys2Proof.Machine.execConfigureEdgeInterrupt e r a s
  | .clearInterruptFlags => Sys2Proof.Machine.execClearInterruptFlags s
  | .getCalibratedTrim => Sys2Proof.Machine.execGetCalibratedTrim s
  | .hostWait => Sys2Proof.Machine.execHostWait s
  | .hostDispatch => Sys2Proof.Machine.execHostDispatch s
  | .frame v => Sys2Proof.Machine.execFrame v s
  | .txsrPattern v => Sys2Proof.Machine.execTxsrPattern v s

end Sys2Proof.Machine
end

