-- ==== Sys2Proof/Machine/Step.lean ====
section
/-! DEFINITION. One step: the script's next word is decoded and its operation performed, atomically (20_memory.md R71). -/

namespace Sys2Proof.Machine

/-- One step of whichever agent the script names next (log 3). A configuration that breaks a constraint is refused
(00_scope.md R8; log 29). -/
def step (s : State) : Host.Outcome State Fault Refusal :=
  if s.cfg.valid then
    match s.script with
    | [] => .refused .emptyScript
    | w :: rest =>
      match decode s.cfg.operandWidth w with
      | some i => exec i { s with script := rest }
      | none => .refused (.unknownWord w)
  else .refused .invalidConfig

/-- `s` with the word put where `step` takes its next one: at the head of the script. -/
def State.withFetchWord (s : State) (nbits w : Nat) : State := { s with script := tableWord nbits w :: s.script }

end Sys2Proof.Machine
end

