-- ==== Sys2Proof/Machine/Script.lean ====
section
/-! DEFINITION. Stimulus scripts (30_encoding.md R104) and the pseudo-operations of R106, each by its expansion. `step`
uses none of them. -/

namespace Sys2Proof.Machine

/-- The script words of a list of operations (R104). -/
def assemble (c : Config) (ops : List Instr) : List ScriptWord := ops.map (encode c.operandWidth)

/-- The inputs of one tick: `rxd`, `aux`, whether `other` is non-empty (40_bit_clock.md R120). -/
structure TickInput where
  rxd : Level
  aux : Level
  other : Bool
deriving DecidableEq, Repr

/-- The `TICK` with these inputs. -/
def TickInput.tick (x : TickInput) : Instr := .tick x.rxd x.aux x.other

/-- `idle xN` (R106). -/
def idleTicks (n : Nat) : List Instr := List.replicate n (.tick true true false)

/-- `wave(v)` (R106): the line waveform of an incoming frame carrying `v`, `BIT_TIME` ticks for each cell. -/
def wave (c : Config) (v : Byte) : List Instr :=
  (List.range Config.frameBits).flatMap fun k =>
    List.replicate c.bitTime (.tick ((framePattern v).getLsbD k) true false)

/-- `press` (R106): the button pressed and "later" released. R106 does not say what passes between the two ticks;
DESIGN CHOICE (log 32): whatever operations the script has there, `between`. -/
def press (between : List Instr) : List Instr := .tick true false false :: between ++ [.tick true true false]

/-- `TICKL aux=a` (R106): the tick of a loopback line, `rxd` being the `TXD` of before the tick (20_memory.md R65). -/
def loopTick (aux : Level) (s : State) : Instr := .tick s.tx.txd aux false

/-- Operations one after another. -/
def runAll (ops : List Instr) (s : State) : Answer :=
  match ops with
  | [] => .next s
  | i :: rest =>
    match exec i s with
    | .next t => runAll rest t
    | .fault r => .fault r
    | .refused r => .refused r

/-- What passes between two attempts of `send_blocking`: one or more ticks (R106). -/
structure Wait where
  first : TickInput
  more : List TickInput
deriving DecidableEq, Repr

/-- The ticks of a wait. -/
def Wait.ticks (w : Wait) : List Instr := (w.first :: w.more).map TickInput.tick

/-- `send_blocking(b)` (R106): `SEND` until it is accepted, one of `waits` passing after each attempt that is not. It ends
only with the accepted `SEND`, and answers that state and the waits left. `none`: it has not ended within `waits`. -/
def sendBlocking (b : Byte) (waits : List Wait) (s : State) : Option (State × List Wait) :=
  match exec (.send b) s with
  | .next t =>
    if t.result = .accepted true then some (t, waits)
    else
      match waits with
      | [] => none
      | w :: rest =>
        match runAll w.ticks t with
        | .next u => sendBlocking b rest u
        | .fault _ => none
        | .refused _ => none
  | .fault _ => none
  | .refused _ => none

/-- `send_string(s)` (R106): each byte by `send_blocking`, in string order; a byte that is not accepted within the waits
leaves the string unfinished. -/
def sendString (str : List Byte) (waits : List Wait) (s : State) : Option (State × List Wait) :=
  match str with
  | [] => some (s, waits)
  | b :: rest =>
    match sendBlocking b waits s with
    | some (t, left) => sendString rest left t
    | none => none

end Sys2Proof.Machine
end

