-- ==== Sys2Proof/Safety.lean ====
section
/-! DEFINITION. The words in which statements about the machine are made: completion, what stays unchanged, the
invariants of 10_state.md R39, and runs of ticks. -/

namespace Sys2Proof.Machine

/-- `i` completes at `s`, in a next state of which `P` holds. -/
def Answers (i : Instr) (s : State) (P : State → Prop) : Prop := ∃ t, exec i s = .next t ∧ P t

/-- Nothing but the outputs and the draws differs: the parameters, every register of the block and of the host, and the
script are the same. -/
structure SameRegisters (s t : State) : Prop where
  cfg : t.cfg = s.cfg
  mode : t.mode = s.mode
  cnt : t.cnt = s.cnt
  tx : t.tx = s.tx
  rx : t.rx = s.rx
  auxIe : t.auxIe = s.auxIe
  auxPrev : t.auxPrev = s.auxPrev
  cmd : t.cmd = s.cmd
  host : t.host = s.host
  script : t.script = s.script

/-- What a tick or an injected step never touches: parameters, `MODE`, script and draws. -/
structure SameSetting (s t : State) : Prop where
  cfg : t.cfg = s.cfg
  mode : t.mode = s.mode
  script : t.script = s.script
  draws : t.draws = s.draws
  drawn : t.drawn = s.drawn


/-- The internal operations of 30_encoding.md R100, which on their own only a harness issues (20_memory.md R61). -/
def isInternal (i : Instr) : Bool :=
  match i with
  | .scheduleNext .. | .reschedule .. | .disable .. | .fire .. | .txStep | .rxStep .. | .rxEdge | .auxEdge | .otherIrq
  | .readLine | .writeLine .. | .configureEdgeInterrupt .. | .clearInterruptFlags | .getCalibratedTrim => true
  | .por | .init .. | .send .. | .statusRead | .cmdRead | .cmdClear | .tick .. | .hostWait | .hostDispatch | .frame ..
  | .txsrPattern .. => false

/-- The two pattern rows, which are no operations (R100). -/
def isPattern (i : Instr) : Bool :=
  match i with
  | .frame .. | .txsrPattern .. => true
  | .por | .init .. | .send .. | .statusRead | .cmdRead | .cmdClear | .tick .. | .scheduleNext .. | .reschedule ..
  | .disable .. | .fire .. | .txStep | .rxStep .. | .rxEdge | .auxEdge | .otherIrq | .readLine | .writeLine ..
  | .configureEdgeInterrupt .. | .clearInterruptFlags | .getCalibratedTrim | .hostWait | .hostDispatch => false

/-- The counter and both compare registers hold `CNT_W`-bit values (R21 to R23). -/
structure CountersInRange (s : State) : Prop where
  cnt : s.cnt < s.cfg.modulus
  tx : s.tx.cmp < s.cfg.modulus
  rx : s.rx.cmp < s.cfg.modulus

/-- `(cmp − CNT) mod 2^CNT_W`: how many ticks ahead a compare value lies (R39 item 8). -/
def ticksAhead (c : Config) (cmp cnt : Nat) : Nat := (cmp + c.modulus - cnt) % c.modulus

/-- The transmit items of R39 (1, 4 to 6, 8). `cells` is item 5 with the level on the line (item 6, and R24: the cell last
driven is number `9 − TXCNT`), without which the items are not kept one by one. `ahead` is item 8, whose bound before the
first cell is `TX_FIRST_OFFSET`, decided as one bit period (R7). -/
structure TransmitInv (c : Config) (cnt : Nat) (x : TxRegs) : Prop where
  arm : x.arm = x.busy
  idle : x.busy = false → x.cnt = 0#4 ∧ x.txd = true
  count : x.busy = true → x.cnt.toNat ≤ 10
  cells : x.busy = true → ∃ v : Byte, x.sr = framePattern v >>> (10 - x.cnt.toNat) ∧
    x.txd = if x.cnt = 10#4 then true else (framePattern v).getLsbD (9 - x.cnt.toNat)
  ahead : x.arm = true → 1 ≤ ticksAhead c x.cmp cnt ∧
    ticksAhead c x.cmp cnt ≤ if x.cnt = 10#4 then c.txFirstOffset else c.bitTime

/-- The receive items of R39 (2, 7, 8). -/
structure ReceiveInv (c : Config) (cnt : Nat) (x : RxRegs) : Prop where
  arm : x.arm = x.act
  ie : x.ie = !x.act
  idle : x.act = false → x.cnt = 0#4
  count : x.act = true → 1 ≤ x.cnt.toNat ∧ x.cnt.toNat ≤ 10
  ahead : x.arm = true → 1 ≤ ticksAhead c x.cmp cnt ∧ ticksAhead c x.cmp cnt ≤ c.bitTime

/-- R39 in `RUN`; outside `RUN` the four arm and enable bits are 0 (R40). -/
structure Inv (s : State) : Prop where
  config : s.cfg.valid = true
  counters : CountersInRange s
  transmit : s.mode = .run → TransmitInv s.cfg s.cnt s.tx
  receive : s.mode = .run → ReceiveInv s.cfg s.cnt s.rx
  aux : s.mode = .run → s.auxIe = true
  unarmed : s.mode ≠ .run → s.tx.arm = false ∧ s.rx.arm = false ∧ s.rx.ie = false ∧ s.auxIe = false

/-- The host's place in its loop (R41, R200, R201): a waiting host holds no command, a dispatching one is inside the
response of the command it read, and only a waiting one is being woken, by the pulse of the last tick. -/
structure HostInv (s : State) : Prop where
  waiting : s.mode = .run → s.host.mode = .waiting → s.host.command = none ∧ s.host.index = 0
  inside : s.mode = .run → ∀ v, s.host.command = some v → s.host.index ≤ (lookup s.cfg v).response.length
  woken : s.mode = .run → s.host.woken = true → s.host.mode = .waiting ∧ s.wake = true

/-- `n` ticks in a row; `inputs k` are the inputs of the `k + 1`-th. -/
def runTicks (inputs : Nat → TickInput) (n : Nat) (s : State) : Answer :=
  match n with
  | 0 => .next s
  | k + 1 =>
    match runTicks inputs k s with
    | .next t => exec (inputs k).tick t
    | .fault r => .fault r
    | .refused r => .refused r

/-- `n` ticks in a row with the receive line fed from the transmit line (20_memory.md R65) and `aux = 1`. -/
def runLoopback (n : Nat) (s : State) : Answer :=
  match n with
  | 0 => .next s
  | k + 1 =>
    match runLoopback k s with
    | .next t => exec (.tick t.tx.txd true false) t
    | .fault r => .fault r
    | .refused r => .refused r

/-- The state with `CNT`, `TXCMP` and `RXCMP` moved by the same constant (40_bit_clock.md R129). -/
def shiftTime (k : Nat) (s : State) : State :=
  { s with cnt := counterAdd s.cfg s.cnt k, tx.cmp := counterAdd s.cfg s.tx.cmp k, rx.cmp := counterAdd s.cfg s.rx.cmp k }

end Sys2Proof.Machine
end

