-- ==== Sys2Proof/Certificates/Slice0/Obligations.lean ====
section
/-! DEFINITION. The statements for the provers. Each holds for every configuration, since the parameters stand in the
state. There is no memory to frame: the block has none (20_memory.md R60). -/

open Sys2Proof Sys2Proof.Machine

/-! ### Reset, initialisation, the fatal trap, modes -/

/-- 10_state.md R40, column "after POR", the values the spec gives, at `State.reset`: `UNINIT`, nothing armed,
`FAULT_IND = 0`; and the script is empty. The other values are the model's choice (log 4) and not stated. -/
def Obligations.ResetIsUninitialisedAndUnarmed : Prop :=
  ∀ c : Config, (State.resetWith c).mode = .uninit ∧ (State.resetWith c).tx.arm = false ∧
    (State.resetWith c).rx.arm = false ∧ (State.resetWith c).rx.ie = false ∧ (State.resetWith c).auxIe = false ∧
    (State.resetWith c).faultInd = false ∧ (State.resetWith c).script = [] ∧ State.reset.mode = .uninit

/-- 70_reset_and_hazards.md R280: in every mode `POR` gives `UNINIT` with the four arm and enable bits 0, and every other
register unspecified: whatever values of the registers' widths are wanted, some supplied draws lead to them. -/
def Obligations.PorUnarmsAndLeavesTheRestUnspecified : Prop :=
  (∀ s : State, Answers .por s fun t =>
    t.mode = .uninit ∧ t.tx.arm = false ∧ t.rx.arm = false ∧ t.rx.ie = false ∧ t.auxIe = false ∧
      t.faultInd = false ∧ t.cfg = s.cfg ∧ t.script = s.script) ∧
  ∀ s u : State, u.cnt < s.cfg.modulus → u.tx.cmp < s.cfg.modulus → u.rx.cmp < s.cfg.modulus →
    ∃ ds : List Nat, Answers .por { s with draws := ds } fun t =>
      t.cnt = u.cnt ∧ t.tx = { u.tx with arm := false } ∧ t.rx = { u.rx with arm := false, ie := false } ∧
        t.auxPrev = u.auxPrev ∧ t.cmd = u.cmd ∧ t.host.mode = u.host.mode ∧ t.host.led = u.host.led ∧
        t.host.command = u.host.command ∧ t.host.index = u.host.index ∧ t.host.heldWake = u.host.heldWake

/-- 70_reset_and_hazards.md R281, all three branches: the registers `INIT` writes and those it keeps; the refusal outside
`UNINIT`; the trap without a trim. What the host does is stated apart (`HostEntersItsLoopAtInit`). -/
def Obligations.InitStartsTheBlockOnce : Prop :=
  (∀ (s : State) (r a : Level), s.mode = .uninit → Answers (.init true r a) s fun t =>
    t.mode = .run ∧ t.cnt = s.cnt ∧
      t.tx = { cmp := s.tx.cmp, arm := false, sr := 0#10, cnt := 0#4, busy := false, txd := true } ∧
      t.rx = { cmp := s.rx.cmp, arm := false, sr := 0#10, cnt := 0#4, act := false, ie := true, prev := r } ∧
      t.auxIe = true ∧ t.auxPrev = a ∧ t.cmd = s.cfg.cmdIdle ∧ t.faultInd = false ∧
      t.cfg = s.cfg ∧ t.script = s.script ∧ t.draws = s.draws ∧ t.drawn = s.drawn) ∧
  (∀ (s : State) (r a : Level), s.mode = .uninit → Answers (.init false r a) s fun t =>
    t.mode = .fatal ∧ t.tx.arm = false ∧ t.rx.arm = false ∧ t.rx.ie = false ∧ t.auxIe = false) ∧
  ∀ (s : State) (p : Bool) (r a : Level), s.mode ≠ .uninit → Answers (.init p r a) s fun t => SameRegisters s t

/-- The model's reading of 70_reset_and_hazards.md R282 step 5 (log 12, log 14): an accepted `INIT` leaves the host
waiting, with no command in hand, and with or without a trim no pulse pending. -/
def Obligations.HostEntersItsLoopAtInit : Prop :=
  (∀ (s : State) (r a : Level), s.mode = .uninit → Answers (.init true r a) s fun t =>
    t.host = { mode := .waiting, led := s.host.led, command := none, index := 0, woken := false, heldWake := false } ∧
      t.wake = false) ∧
  ∀ (s : State) (r a : Level), s.mode = .uninit → Answers (.init false r a) s fun t =>
    t.wake = false ∧ t.host = { s.host with led := t.host.led, woken := false }

/-- 60_exceptions.md R246 with 10_state.md R40, column "after `INIT(none)`": the entry of the fatal trap gives `FATAL` and
the four arm and enable bits 0, and `FAULT_IND` is 1; every other register of the block and `LED` is unspecified after it
(log 31): whatever values of the registers' widths are wanted, the ones of before among them, some supplied draws lead to
them. In `FATAL` every operation except `POR` leaves every register as it is and raises no pulse. -/
def Obligations.FatalTrapEntryAndRefusals : Prop :=
  (∀ (s : State) (r a : Level), s.mode = .uninit → Answers (.init false r a) s fun t =>
    t.mode = .fatal ∧ t.faultInd = true ∧ t.tx.arm = false ∧ t.rx.arm = false ∧ t.rx.ie = false ∧ t.auxIe = false ∧
      t.cfg = s.cfg ∧ t.script = s.script) ∧
  (∀ (s u : State) (r a : Level), s.mode = .uninit → u.cnt < s.cfg.modulus → u.tx.cmp < s.cfg.modulus →
    u.rx.cmp < s.cfg.modulus → ∃ ds : List Nat, Answers (.init false r a) { s with draws := ds } fun t =>
      t.cnt = u.cnt ∧ t.tx = { u.tx with arm := false } ∧ t.rx = { u.rx with arm := false, ie := false } ∧
        t.auxPrev = u.auxPrev ∧ t.cmd = u.cmd ∧ t.host.led = u.host.led) ∧
  ∀ (i : Instr) (s : State), s.mode = .fatal → i ≠ .por → isPattern i = false → Answers i s fun t =>
    SameRegisters s t ∧ (t.wake = true → s.wake = true)

/-- 10_state.md R35: the only changes of `MODE` are `POR` to `UNINIT`, and `INIT` from `UNINIT` to `RUN` or `FATAL`. -/
def Obligations.ModeChangesOnlyByPorAndInit : Prop :=
  ∀ (i : Instr) (s t : State), exec i s = .next t → t.mode ≠ s.mode →
    (i = .por ∧ t.mode = .uninit) ∨
      (s.mode = .uninit ∧ ∃ p r a, i = .init p r a ∧ t.mode = if p then .run else .fatal)

/-- 40_bit_clock.md R132: a `TICK` outside `RUN` changes no register and returns `wake = 0`. That `CNT` stands still too,
which R132 leaves unspecified, is the model's choice (log 26). -/
def Obligations.TickOutsideRunIsRefused : Prop :=
  ∀ (s : State) (r a : Level) (o : Bool), s.mode ≠ .run → Answers (.tick r a o) s fun t =>
    SameRegisters s t ∧ t.wake = false

/-- 20_memory.md R66 and 30_encoding.md R103: outside `RUN` the host's operations change no register and no pulse, and a
refused read returns any value: whichever is wanted, some supplied draw leads to it. That the host's own steps `HOST_WAIT`
and `HOST_DISPATCH` are refused there as well is the model's choice (log 12). -/
def Obligations.HostOperationsOutsideRunAreRefused : Prop :=
  ∀ (s : State), s.mode ≠ .run →
    (∀ i ∈ [Instr.statusRead, .cmdRead, .cmdClear, .hostWait, .hostDispatch], Answers i s fun t =>
      SameRegisters s t ∧ t.wake = s.wake) ∧
    (∀ v, Answers (.send v) s fun t => SameRegisters s t ∧ t.wake = s.wake ∧ t.result ≠ .accepted true) ∧
    (∀ b, ∃ ds, Answers .statusRead { s with draws := ds } fun t => t.result = .txBusy b) ∧
    (∀ v, ∃ ds, Answers .cmdRead { s with draws := ds } fun t => t.result = .cmd v)

/-! ### The Bit Clock -/

/-- 10_state.md R21: `CNT` is advanced by `TICK` in `RUN`, by 1 modulo `2^CNT_W`, and written by no other operation but
`POR` and an `INIT` without a trim, after which it is unspecified (R40; log 31). -/
def Obligations.OnlyTickAdvancesTheCounter : Prop :=
  (∀ (s : State) (r a : Level) (o : Bool), s.mode = .run → Answers (.tick r a o) s fun t =>
    t.cnt = (s.cnt + 1) % 2 ^ s.cfg.cntW) ∧
  ∀ (i : Instr) (s t : State), exec i s = .next t → i ≠ .por → ¬(s.mode = .uninit ∧ ∃ r a, i = .init false r a) →
    (∀ r a o, i ≠ .tick r a o) → t.cnt = s.cnt

/-- 40_bit_clock.md R120 steps 1, 6 and 7, and the frame of a tick: it completes in `RUN`, samples the two lines, and
touches no parameter, mode, draw or script word; of the host, a waiting one is woken by a pulse of this tick and by no
earlier one (log 14), a dispatching one only remembers it with `WAKE_LATCHED` (R200 (d), log 15). Other sources change
nothing (R163). -/
def Obligations.TickCompletesAndKeepsTheSetting : Prop :=
  ∀ (s : State) (r a : Level) (o : Bool), s.mode = .run → Answers (.tick r a o) s fun t =>
    SameSetting s t ∧ t.rx.prev = r ∧ t.auxPrev = a ∧ t.auxIe = s.auxIe ∧
      t.host = { s.host with
        woken := s.host.mode == .waiting && t.wake
        heldWake := s.host.heldWake || (s.cfg.wakeLatched && s.host.mode == .dispatching && t.wake) } ∧
      exec (.tick r a o) s = exec (.tick r a (!o)) s

/-- 40_bit_clock.md R120, step 2, and R141: what a tick does to the transmit registers. Without a match of an armed
channel nothing; with one, the next cell is driven or, when all ten have been, the slot is freed. -/
def Obligations.TickServesTheTransmitChannel : Prop :=
  ∀ (s : State) (r a : Level) (o : Bool), s.mode = .run → Answers (.tick r a o) s fun t =>
    if s.tx.arm = true ∧ (s.cnt + 1) % s.cfg.modulus = s.tx.cmp then
      t.tx.cmp = (s.tx.cmp + s.cfg.bitTime) % s.cfg.modulus ∧
      if s.tx.cnt = 0#4 then
        t.tx.arm = false ∧ t.tx.busy = false ∧ t.tx.sr = s.tx.sr ∧ t.tx.cnt = s.tx.cnt ∧ t.tx.txd = s.tx.txd
      else
        t.tx.arm = true ∧ t.tx.busy = s.tx.busy ∧ t.tx.txd = s.tx.sr.getLsbD 0 ∧
          t.tx.sr.toNat = s.tx.sr.toNat / 2 ∧ t.tx.cnt.toNat = s.tx.cnt.toNat - 1
    else t.tx = s.tx

/-- 40_bit_clock.md R120 steps 3 and 4 with 43_receive_engine.md R180: a fire that does not complete takes one sample,
and, `RXIE` being 0, an edge in that tick is lost. -/
def Obligations.TickTakesASample : Prop :=
  ∀ (s : State) (r a : Level) (o : Bool), s.mode = .run → s.rx.arm = true →
    (s.cnt + 1) % s.cfg.modulus = s.rx.cmp → 2 ≤ s.rx.cnt.toNat → s.rx.ie = false →
    Answers (.tick r a o) s fun t =>
      t.rx.cmp = (s.rx.cmp + s.cfg.bitTime) % s.cfg.modulus ∧ t.rx.arm = true ∧ t.rx.ie = false ∧
        t.rx.act = s.rx.act ∧ t.rx.prev = r ∧ t.rx.cnt.toNat = s.rx.cnt.toNat - 1 ∧
        t.rx.sr.toNat = 2 ^ 9 * r.toNat + s.rx.sr.toNat / 2

/-- 43_receive_engine.md R180 inside a tick, with 40_bit_clock.md R120 corner cases (b) and (c): the tenth sample
completes the frame and raises `wake`; an auxiliary edge in the same tick wins `CMD`; a line that falls in that very tick
starts the next frame at once. Bit 7 of the byte is the new top sample but one, `RXSR[9]` before the shift. -/
def Obligations.TickCompletesAReception : Prop :=
  ∀ (s : State) (r a : Level) (o : Bool), s.mode = .run → s.rx.arm = true →
    (s.cnt + 1) % s.cfg.modulus = s.rx.cmp → s.rx.cnt = 1#4 → Answers (.tick r a o) s fun t =>
      t.wake = true ∧
      (if s.auxIe = true ∧ s.auxPrev = true ∧ a = false then t.cmd = s.cfg.cmdAux
        else ∀ i < 8, t.cmd.getLsbD i = s.rx.sr.getLsbD (i + 2)) ∧
      if s.rx.prev = true ∧ r = false then
        t.rx = { cmp := (t.cnt + s.cfg.bitTime / 2) % s.cfg.modulus, arm := true, sr := 0#10, cnt := 10#4, act := true,
                 ie := false, prev := r }
      else
        t.rx.cmp = (s.rx.cmp + s.cfg.bitTime) % s.cfg.modulus ∧ t.rx.arm = false ∧ t.rx.cnt = 0#4 ∧
          t.rx.act = false ∧ t.rx.ie = true ∧ t.rx.prev = r ∧
          t.rx.sr.toNat = 2 ^ 9 * r.toNat + s.rx.sr.toNat / 2

/-- 42_edge_detector.md R164, R165 and R161: in a tick without a receive fire an accepted falling edge starts a frame,
and anything else (detection off, a steady or rising line) changes only `RXPREV`. -/
def Obligations.TickStartsAFrameOnlyOnAnAcceptedEdge : Prop :=
  ∀ (s : State) (r a : Level) (o : Bool), s.mode = .run →
    ¬(s.rx.arm = true ∧ (s.cnt + 1) % s.cfg.modulus = s.rx.cmp) → Answers (.tick r a o) s fun t =>
      if s.rx.ie = true ∧ s.rx.prev = true ∧ r = false then
        t.rx = { cmp := (t.cnt + s.cfg.bitTime / 2) % s.cfg.modulus, arm := true, sr := 0#10, cnt := 10#4, act := true,
                 ie := false, prev := r }
      else t.rx = { s.rx with prev := r }

/-- 20_memory.md R63: `wake` is 1 in exactly the ticks in which the completing `RX_STEP` or an `AUX_EDGE` ran; in every
other tick it is 0 and `CMD` is unchanged. -/
def Obligations.WakeExactlyOnCompletionOrAuxEdge : Prop :=
  ∀ (s : State) (r a : Level) (o : Bool), s.mode = .run → Answers (.tick r a o) s fun t =>
    (t.wake = true ↔
      (s.rx.arm = true ∧ (s.cnt + 1) % s.cfg.modulus = s.rx.cmp ∧ s.rx.cnt = 1#4) ∨
        (s.auxIe = true ∧ s.auxPrev = true ∧ a = false)) ∧
    (t.wake = false → t.cmd = s.cmd) ∧
    (s.auxIe = true ∧ s.auxPrev = true ∧ a = false → t.cmd = s.cfg.cmdAux)

/-- 40_bit_clock.md R123: the compare value is `offset` ticks from the running counter, the channel is armed, and
nothing else changes; re-arming replaces the compare value. For an offset of `2^CNT_W` or more, outside R123's range, that
the sum is taken all the same is the model's choice (log 18). -/
def Obligations.ScheduleNextArmsFromTheCounter : Prop :=
  ∀ (s : State) (n : Nat), s.mode = .run →
    exec (.scheduleNext .tx n) s =
      .next { s with tx.cmp := (s.cnt + n) % 2 ^ s.cfg.cntW, tx.arm := true, result := .silent } ∧
    exec (.scheduleNext .rx n) s =
      .next { s with rx.cmp := (s.cnt + n) % 2 ^ s.cfg.cntW, rx.arm := true, result := .silent }

/-- 40_bit_clock.md R124: the base is the compare value, not `CNT`. For a period of 0, or of `2^CNT_W` or more, outside
R124's range, that the sum is taken all the same is the model's choice (log 18). -/
def Obligations.RescheduleArmsFromTheCompareValue : Prop :=
  ∀ (s : State) (n : Nat), s.mode = .run →
    exec (.reschedule .tx n) s =
      .next { s with tx.cmp := (s.tx.cmp + n) % 2 ^ s.cfg.cntW, tx.arm := true, result := .silent } ∧
    exec (.reschedule .rx n) s =
      .next { s with rx.cmp := (s.rx.cmp + n) % 2 ^ s.cfg.cntW, rx.arm := true, result := .silent }

/-- 40_bit_clock.md R125: only the arm bit is cleared; `CNT` and the compare value stay. -/
def Obligations.DisableClearsOnlyTheArmBit : Prop :=
  ∀ s : State, s.mode = .run →
    exec (.disable .tx) s = .next { s with tx.arm := false, result := .silent } ∧
    exec (.disable .rx) s = .next { s with rx.arm := false, result := .silent }

/-- 40_bit_clock.md R121: a fire clears the channel's arm bit and runs the owning engine's step function; injected on the
receive channel it completes with some sampled level, and with any (log 8). -/
def Obligations.FireRunsTheStepFunction : Prop :=
  (∀ s : State, s.mode = .run → (∃ t, exec (.fire .tx) s = .next t) ∧
    exec (.fire .tx) s = exec .txStep { s with tx.arm := false }) ∧
  (∀ s : State, s.mode = .run → (∃ t, exec (.fire .rx) s = .next t) ∧
    ∃ b, exec (.fire .rx) s =
      exec (.rxStep b) { s with rx.arm := false, draws := s.draws.drop 1, drawn := s.drawn + 1 }) ∧
  ∀ (s : State) (b : Level), s.mode = .run → ∃ d,
    exec (.fire .rx) { s with draws := [d] } =
      exec (.rxStep b) { s with rx.arm := false, draws := [], drawn := s.drawn + 1 }

/-- 40_bit_clock.md R123 (the offset is exact): a transmit event scheduled `n` ticks ahead, `1 ≤ n < 2^CNT_W`, is served
in the `n`-th following tick and in none before, whatever the inputs and across a counter wrap. -/
def Obligations.ScheduledEventIsServedAtItsOffset : Prop :=
  ∀ (s t : State) (n : Nat) (inputs : Nat → TickInput), s.mode = .run → CountersInRange s → 1 ≤ n →
    n < s.cfg.modulus → exec (.scheduleNext .tx n) s = .next t →
    (∀ k < n, ∃ u, runTicks inputs k t = .next u ∧ u.tx = t.tx) ∧
    ∃ u v, runTicks inputs n t = .next u ∧ exec .txStep { t with tx.arm := false } = .next v ∧ u.tx = v.tx

/-- The model's reading of R61 and R246 (log 10): an internal step, injected in `UNINIT`, has the effect it has in `RUN`,
since its rule tests no mode. (In `FATAL` it is refused: `FatalTrapEntryAndRefusals`.) -/
def Obligations.InjectedStepsRunInUninitAsInRun : Prop :=
  ∀ (i : Instr) (s : State), isInternal i = true → s.mode = .uninit →
    ∃ t, exec i { s with mode := .run } = .next t ∧ exec i s = .next { t with mode := .uninit }

/-! ### The Transmit Engine -/

/-- 41_transmit_engine.md R140, all three branches: accepted, the pattern is `0x200 + 2 × byte`, ten cells are to drive,
the first event is `TX_FIRST_OFFSET` ahead and `TXD` is not written; while busy nothing changes and `accepted = 0`; outside
`RUN` it is refused. -/
def Obligations.SendLoadsAFreeSlotOnly : Prop :=
  (∀ (s : State) (v : Byte), s.mode = .run → s.tx.busy = false → Answers (.send v) s fun t =>
    t.result = .accepted true ∧ t.tx.sr.toNat = 0x200 + 2 * v.toNat ∧ t.tx.cnt = 10#4 ∧ t.tx.busy = true ∧
      t.tx.cmp = (s.cnt + s.cfg.txFirstOffset) % 2 ^ s.cfg.cntW ∧ t.tx.arm = true ∧ t.tx.txd = s.tx.txd ∧
      t = { s with tx := t.tx, result := t.result }) ∧
  (∀ (s : State) (v : Byte), s.mode = .run → s.tx.busy = true →
    exec (.send v) s = .next { s with result := .accepted false }) ∧
  ∀ (s : State) (v : Byte), s.mode ≠ .run → exec (.send v) s = .next { s with result := .silent }

/-- 41_transmit_engine.md R141, both branches, with the frame: the compare value moves one bit time on in both; with cells
left one is driven, with none left the channel is disarmed and the slot freed, `TXD` staying as it is. -/
def Obligations.TxStepDrivesACellOrFreesTheSlot : Prop :=
  (∀ s : State, s.mode = .run → s.tx.cnt ≠ 0#4 → Answers .txStep s fun t =>
    t.tx.cmp = (s.tx.cmp + s.cfg.bitTime) % 2 ^ s.cfg.cntW ∧ t.tx.arm = true ∧ t.tx.txd = s.tx.sr.getLsbD 0 ∧
      t.tx.sr.toNat = s.tx.sr.toNat / 2 ∧ t.tx.cnt.toNat = s.tx.cnt.toNat - 1 ∧ t.tx.busy = s.tx.busy ∧
      t = { s with tx := t.tx, result := .silent }) ∧
  ∀ s : State, s.mode = .run → s.tx.cnt = 0#4 →
    exec .txStep s = .next { s with
      tx := { s.tx with cmp := (s.tx.cmp + s.cfg.bitTime) % 2 ^ s.cfg.cntW, arm := false, busy := false }
      result := .silent }

/-- 41_transmit_engine.md R142: the busy flag is returned and nothing changes; outside `RUN` it is refused. -/
def Obligations.StatusReadReturnsBusy : Prop :=
  (∀ s : State, s.mode = .run → exec .statusRead s = .next { s with result := .txBusy s.tx.busy }) ∧
  ∀ s : State, s.mode ≠ .run → Answers .statusRead s fun t => SameRegisters s t ∧ t.wake = s.wake

/-- 41_transmit_engine.md R143: the whole timeline of an accepted `SEND(v)` with no further one, for every bit time, first
offset and counter value and whatever the inputs: mark until the first boundary, `TX_FIRST_OFFSET` ticks on, cell `k` of the
frame during the `k + 1`-th bit period from there, then the slot freed. With the decided `TX_FIRST_OFFSET = BIT_TIME` (R7)
it is R143's table, the slot freed at `11 × BIT_TIME`; the first offset as a parameter of its own is log 28. -/
def Obligations.TransmitFrameTimeline : Prop :=
  ∀ (s t : State) (v : Byte) (inputs : Nat → TickInput) (n : Nat), s.cfg.valid = true → CountersInRange s →
    s.mode = .run → s.tx.busy = false → s.tx.txd = true → exec (.send v) s = .next t → 1 ≤ n →
    ∃ u, runTicks inputs n t = .next u ∧
      (n < s.cfg.txFirstOffset → u.tx.txd = true ∧ u.tx.cnt = 10#4 ∧ u.tx.busy = true) ∧
      (∀ k ≤ 9, s.cfg.txFirstOffset + k * s.cfg.bitTime ≤ n → n < s.cfg.txFirstOffset + (k + 1) * s.cfg.bitTime →
        u.tx.txd = (framePattern v).getLsbD k ∧ u.tx.cnt.toNat = 9 - k ∧ u.tx.busy = true) ∧
      (s.cfg.txFirstOffset + 10 * s.cfg.bitTime ≤ n → u.tx.txd = true ∧ u.tx.cnt = 0#4 ∧ u.tx.busy = false)

/-! ### The Receive Engine and the Line Edge Detector -/

/-- 43_receive_engine.md R180, all branches, with the frame: the compare value moves one bit time on, the sample enters
bit 9; the tenth sample disarms the channel, delivers bits 8 to 1 to `CMD`, re-enables the edge detection, releases the
slot and emits `wake`. With `RXCNT = 0` the injection is refused. What the pulse does to the host, R200 (d), is the model's
choice: a waiting one is woken (log 14, log 30), a dispatching one only remembers it with `WAKE_LATCHED` (log 15). -/
def Obligations.RxStepSamplesAndCompletes : Prop :=
  (∀ (s : State) (b : Level), s.mode = .run → 2 ≤ s.rx.cnt.toNat → Answers (.rxStep b) s fun t =>
    t.rx.cmp = (s.rx.cmp + s.cfg.bitTime) % 2 ^ s.cfg.cntW ∧ t.rx.arm = true ∧
      t.rx.sr.toNat = 2 ^ 9 * b.toNat + s.rx.sr.toNat / 2 ∧ t.rx.cnt.toNat = s.rx.cnt.toNat - 1 ∧
      t.rx.act = s.rx.act ∧ t.rx.ie = s.rx.ie ∧ t.rx.prev = s.rx.prev ∧
      t = { s with rx := t.rx, result := .silent }) ∧
  (∀ (s : State) (b : Level), s.mode = .run → s.rx.cnt = 1#4 → Answers (.rxStep b) s fun t =>
    t.rx.cmp = (s.rx.cmp + s.cfg.bitTime) % 2 ^ s.cfg.cntW ∧ t.rx.arm = false ∧
      t.rx.sr.toNat = 2 ^ 9 * b.toNat + s.rx.sr.toNat / 2 ∧ t.rx.cnt = 0#4 ∧
      t.rx.act = false ∧ t.rx.ie = true ∧ t.rx.prev = s.rx.prev ∧
      t.cmd.toNat = t.rx.sr.toNat / 2 % 2 ^ 8 ∧ t.wake = true ∧
      t = { s with
        rx := t.rx, cmd := t.cmd, wake := true, result := .silent
        host.woken := s.host.woken || s.host.mode == .waiting
        host.heldWake := s.host.heldWake || (s.cfg.wakeLatched && s.host.mode == .dispatching) }) ∧
  ∀ (s : State) (b : Level), s.rx.cnt = 0#4 → exec (.rxStep b) s = .next { s with result := .silent }

/-- 42_edge_detector.md R161, with the frame: the receive detection is disarmed, the first sample is half a bit time
ahead, the Receive Slot is cleared; `CMD` and the transmit side are not touched. -/
def Obligations.RxEdgeStartsAFrame : Prop :=
  ∀ s : State, s.mode = .run →
    exec .rxEdge s = .next { s with
      rx := { cmp := (s.cnt + s.cfg.bitTime / 2) % 2 ^ s.cfg.cntW, arm := true, sr := 0#10, cnt := 10#4, act := true,
              ie := false, prev := s.rx.prev }
      result := .silent }

/-- 42_edge_detector.md R162, with the frame: `CMD` takes `CMD_AUX` and `wake` is pulsed; the Receive Engine and `AUXIE`
are not touched. What the pulse does to the host, R200 (d), is the model's choice: a waiting one is woken (log 14, log 30),
a dispatching one only remembers it with `WAKE_LATCHED` (log 15). -/
def Obligations.AuxEdgePostsTheSentinel : Prop :=
  ∀ s : State, s.mode = .run → exec .auxEdge s = .next { s with
    cmd := s.cfg.cmdAux, wake := true, result := .silent
    host.woken := s.host.woken || s.host.mode == .waiting
    host.heldWake := s.host.heldWake || (s.cfg.wakeLatched && s.host.mode == .dispatching) }

/-- 42_edge_detector.md R163 and 45_collaborators.md R223: acknowledging changes nothing. -/
def Obligations.AcknowledgingChangesNothing : Prop :=
  ∀ s : State, exec .otherIrq s = .next { s with result := .silent } ∧
    exec .clearInterruptFlags s = .next { s with result := .silent }

/-- 43_receive_engine.md R183, R186, R187 and 30_encoding.md R95: once a frame has started, the ten samples are taken at
`H + jB` ticks whatever the lines do. Before the last of them nothing of the frame shows: a pulse, and a change of `CMD`,
comes from an auxiliary edge alone. In the tick of the last, bit `i` of the delivered byte is the level at the `i + 2`-th
sample (an auxiliary edge in that very tick overwrites it), `wake` is 1 and the engine is free again unless the line fell
in that tick. -/
def Obligations.ReceptionTimeline : Prop :=
  ∀ (s t : State) (inputs : Nat → TickInput), s.cfg.valid = true → CountersInRange s → s.mode = .run →
    exec .rxEdge s = .next t →
    (∀ n < s.cfg.halfBit + 9 * s.cfg.bitTime, ∃ u, runTicks inputs n t = .next u ∧ u.rx.act = true ∧ u.rx.ie = false ∧
      ∀ j ≤ 9, (j = 0 ∨ s.cfg.halfBit + (j - 1) * s.cfg.bitTime ≤ n) → n < s.cfg.halfBit + j * s.cfg.bitTime →
        u.rx.cnt.toNat = 10 - j) ∧
    (∀ n, n + 1 < s.cfg.halfBit + 9 * s.cfg.bitTime → ∃ w u, runTicks inputs n t = .next w ∧
      runTicks inputs (n + 1) t = .next u ∧
      (u.wake = true ↔ w.auxIe = true ∧ w.auxPrev = true ∧ (inputs n).aux = false) ∧
      u.cmd = if u.wake = true then s.cfg.cmdAux else w.cmd) ∧
    ∀ n, n + 1 = s.cfg.halfBit + 9 * s.cfg.bitTime → ∃ w u, runTicks inputs n t = .next w ∧
      runTicks inputs (n + 1) t = .next u ∧ u.wake = true ∧
      (¬(w.auxIe = true ∧ w.auxPrev = true ∧ (inputs n).aux = false) →
        ∀ i < 8, u.cmd.getLsbD i = (inputs (s.cfg.halfBit + (i + 1) * s.cfg.bitTime - 1)).rxd) ∧
      (¬(w.rx.prev = true ∧ (inputs n).rxd = false) → u.rx.act = false ∧ u.rx.ie = true ∧ u.rx.arm = false)

/-- 43_receive_engine.md R184, the round-trip law: from an idle block, a byte sent over a loopback line is received
unchanged, `TX_FIRST_OFFSET + 9 × BIT_TIME + 1 + HALF_BIT` ticks after the `SEND` (with the decided first offset of one bit
time, R184's `10 × BIT_TIME + 1 + HALF_BIT`; log 28), with a wake pulse, for every byte, every bit time, every first offset
and every counter value. -/
def Obligations.LoopbackRoundTrip : Prop :=
  ∀ (s t : State) (v : Byte), Inv s → s.mode = .run → s.tx.busy = false → s.rx.act = false → s.rx.prev = true →
    exec (.send v) s = .next t →
    ∃ u, runLoopback (s.cfg.txFirstOffset + 9 * s.cfg.bitTime + 1 + s.cfg.halfBit) t = .next u ∧ u.cmd = v ∧ u.wake = true

/-! ### The external-interface operations -/

/-- 45_collaborators.md R221: only `TXD` changes. -/
def Obligations.WriteLineDrivesTxd : Prop :=
  ∀ (s : State) (b : Level), s.mode = .run →
    exec (.writeLine b) s = .next { s with tx.txd := b, result := .silent }

/-- 45_collaborators.md R222: the falling edge on both lines arms both detections; every other argument is refused. -/
def Obligations.ConfigureArmsFallingEdgesOnBothLinesOnly : Prop :=
  (∀ s : State, s.mode = .run →
    exec (.configureEdgeInterrupt .falling true true) s =
      .next { s with rx.ie := true, auxIe := true, result := .silent }) ∧
  ∀ (s : State) (e : Edge) (r a : Bool), ¬(e = .falling ∧ r = true ∧ a = true) →
    exec (.configureEdgeInterrupt e r a) s = .next { s with result := .silent }

/-- 45_collaborators.md R220 (outside a tick, 93 U27) and R224: both change no register and answer any value: whichever
is wanted, some supplied draws lead to it. -/
def Obligations.FreeAnswersChangeNoRegister : Prop :=
  (∀ s : State, (Answers .readLine s fun t => SameRegisters s t ∧ t.wake = s.wake) ∧
    Answers .getCalibratedTrim s fun t => SameRegisters s t ∧ t.wake = s.wake) ∧
  (∀ (s : State) (b : Level), ∃ ds, Answers .readLine { s with draws := ds } fun t => t.result = .level b) ∧
  ∀ (s : State) (o : Option TrimValue), o = none ∨ (∃ v, o = some v) →
    ∃ ds, Answers .getCalibratedTrim { s with draws := ds } fun t => t.result = .trim o

/-! ### The mailbox and the host agent -/

/-- 44_command_dispatcher.md R203: the whole byte is returned and the register is not cleared; outside `RUN` it is
refused. -/
def Obligations.CmdReadReturnsCmd : Prop :=
  (∀ s : State, s.mode = .run → exec .cmdRead s = .next { s with result := .cmd s.cmd }) ∧
  ∀ s : State, s.mode ≠ .run → Answers .cmdRead s fun t => SameRegisters s t ∧ t.wake = s.wake

/-- 44_command_dispatcher.md R204: whatever `CMD` holds is overwritten by `CMD_IDLE`; refused outside `RUN`. -/
def Obligations.CmdClearWritesTheIdleSentinel : Prop :=
  (∀ s : State, s.mode = .run → exec .cmdClear s = .next { s with cmd := s.cfg.cmdIdle, result := .silent }) ∧
  ∀ s : State, s.mode ≠ .run → exec .cmdClear s = .next { s with result := .silent }

/-- 44_command_dispatcher.md R202: the two documented rows (a `CMD_AUX` equal to `'r'` has the sentinel's meaning,
30_encoding.md R96), the further rows of the table, and `RESP_INVALID` for every
value outside it; R205: the two strings are the ASCII codes of their characters (log 27); in a valid configuration every
response ends in carriage return, line feed. -/
def Obligations.LookupFollowsTheCommandTable : Prop :=
  ∀ c : Config, c.valid = true →
    (c.cmdAux ≠ 0x72#8 → (lookup c 0x72#8).action = .toggleLed ∧ (lookup c 0x72#8).response = respToggled ∧
      (lookup c 0x72#8).stayAwake = false) ∧
    (lookup c c.cmdAux).action = .idle ∧ (lookup c c.cmdAux).response = respButton ∧
      (lookup c c.cmdAux).stayAwake = false ∧
    (∀ r ∈ c.cmdTable, lookup c r.code = r) ∧
    (∀ v, v ≠ 0x72#8 → v ≠ c.cmdAux → (∀ r ∈ c.cmdTable, r.code ≠ v) →
      (lookup c v).action = .idle ∧ (lookup c v).response = c.respInvalid ∧ (lookup c v).stayAwake = false) ∧
    (lookup c 0x00#8).response = c.respInvalid ∧
    respToggled.map BitVec.toNat = "Toggled Red LED.\r\n".toList.map Char.toNat ∧
    respButton.map BitVec.toNat = "Button Pressed!!\r\n".toList.map Char.toNat ∧
    ∀ v, ∃ body, (lookup c v).response = body ++ [0x0D#8, 0x0A#8]

/-- 44_command_dispatcher.md R200: a waiting host woken by the pulse of the last tick starts dispatching, is held without
one, and a dispatching host does nothing. A tick wakes the host exactly when it pulses and finds it waiting: a pulse that
comes while it is dispatching is lost to it, also for a `HOST_WAIT` before the next tick (R200 (d); log 14). -/
def Obligations.HostWaitStartsDispatchOnWake : Prop :=
  (∀ s : State, s.mode = .run → s.host.mode = .waiting → s.host.woken = true →
    exec .hostWait s = .next { s with
      host := { s.host with mode := .dispatching, command := none, index := 0, woken := false }, result := .silent }) ∧
  (∀ s : State, s.host.mode = .dispatching ∨ s.host.woken = false → exec .hostWait s = .next { s with result := .silent }) ∧
  ∀ (s t : State) (r a : Level) (o : Bool), s.mode = .run → exec (.tick r a o) s = .next t →
    (t.host.woken = true ↔ s.host.mode = .waiting ∧ t.wake = true)

/-- 44_command_dispatcher.md R201, first operation of a pass: `CMD` is read once, not cleared, and the looked-up action
performed; of the block nothing changes. The step size is the model's choice (log 11). -/
def Obligations.HostDispatchReadsAndActs : Prop :=
  ∀ s : State, s.mode = .run → s.host.mode = .dispatching → s.host.command = none →
    exec .hostDispatch s = .next { s with
      host := { s.host with command := some s.cmd, index := 0,
                            led := s.host.led ^^ ((lookup s.cfg s.cmd).action == .toggleLed) }
      result := .cmd s.cmd }

/-- 44_command_dispatcher.md R201 with 30_encoding.md R106: the next response byte is handed to `SEND`; a busy slot leaves
everything as it is, to be tried again, a free one takes the byte exactly as `SEND` does. That one `HOST_DISPATCH` is one
attempt is the model's choice (log 11). -/
def Obligations.HostDispatchSendsTheNextByte : Prop :=
  ∀ (s : State) (c v : Byte), s.mode = .run → s.host.mode = .dispatching → s.host.command = some c →
    (lookup s.cfg c).response[s.host.index]? = some v →
    (s.tx.busy = true → exec .hostDispatch s = .next { s with result := .accepted false }) ∧
    (s.tx.busy = false → ∃ t, exec (.send v) s = .next t ∧
      exec .hostDispatch s = .next { t with host.index := s.host.index + 1 })

/-- 44_command_dispatcher.md R201, last operation of a pass: the whole response being handed over, `CMD` is cleared
whatever it holds, and the host waits unless the action stays awake (or, with a remembered pulse, makes one more pass:
R200 (d), log 15). That the clear and the change of `HOST` are one `HOST_DISPATCH` is the model's choice (log 11). -/
def Obligations.HostDispatchClearsAndWaits : Prop :=
  ∀ (s : State) (c : Byte), s.mode = .run → s.host.mode = .dispatching → s.host.command = some c →
    (lookup s.cfg c).response.length ≤ s.host.index → Answers .hostDispatch s fun t =>
      t.cmd = s.cfg.cmdIdle ∧ t.host.command = none ∧ t.host.index = 0 ∧ t.host.led = s.host.led ∧ t.host.woken = s.host.woken ∧
        (t.host.mode = .waiting ↔ (lookup s.cfg c).stayAwake = false ∧ s.host.heldWake = false) ∧
        (t.host.heldWake = true ↔ s.host.heldWake = true ∧ (lookup s.cfg c).stayAwake = true) ∧
        t = { s with cmd := t.cmd, host := t.host, result := .silent }

/-- The model's reading of the halt (44_command_dispatcher.md R200; log 13): a waiting host does not dispatch. -/
def Obligations.HostDispatchIsHeldWhileWaiting : Prop :=
  ∀ s : State, s.host.mode = .waiting → exec .hostDispatch s = .next { s with result := .silent }

/-- 10_state.md R41 and 44_command_dispatcher.md R200, R201: in every step of every operation the host stays in its loop: a
waiting host holds no command, a dispatching one never runs past the response of its command, and only a waiting one is
being woken, by a pulse of the last tick. -/
def Obligations.HostStaysInsideItsLoop : Prop :=
  ∀ (i : Instr) (s t : State), HostInv s → exec i s = .next t → HostInv t

/-! ### Encoding, patterns, the step -/

/-- 30_encoding.md R100: the rows `FRAME` and `TXSR_PATTERN` are not operations; both are refused by name (log 19). -/
def Obligations.PatternRowsAreNoOperations : Prop :=
  ∀ (s : State) (v : Byte), exec (.frame v) s = .refused (.notAnOperation "FRAME") ∧
    exec (.txsrPattern v) s = .refused (.notAnOperation "TXSR_PATTERN")

/-- The examples of 30_encoding.md R102, and of R222 and 95_test_vectors.md BC5, decode to the operations they stand for. -/
def Obligations.ExampleWordsDecode : Prop :=
  decode 16 (.stimulus 0x02000055#32) = some (.send 0x55#8) ∧
  decode 16 (.stimulus 0x10000003#32) = some (.tick true true false) ∧
  decode 16 (.stimulus 0x10000002#32) = some (.tick false true false) ∧
  decode 16 (.stimulus 0x01000007#32) = some (.init true true true) ∧
  decode 16 (.stimulus 0x20010034#32) = some (.scheduleNext .rx 52) ∧
  decode 16 (.stimulus 0x42000006#32) = some (.configureEdgeInterrupt .falling true true) ∧
  decode 16 (.stimulus 0x22010000#32) = some (.disable .rx)

/-- 30_encoding.md R101, R102: decoding the encoding of any well-formed instruction gives it back, every operand at every
value its field admits, at every width of the counter field. -/
def Obligations.DecodeEncodeRoundTrip : Prop :=
  ∀ (width : Nat) (i : Instr), i.wellFormed width = true → decode width (encode width i) = some i

/-- 30_encoding.md R101: decoding is total, a tag of R102 always names an operation (at an operand width that fits), and
every other tag is refused; what is decoded is well formed. -/
def Obligations.DecodeAcceptsExactlyTheTags : Prop :=
  ∀ (width : Nat) (w : BitVec 32), width ≤ 23 →
    ((decode width (.stimulus w)).isSome = true ↔
      w.toNat / 2 ^ 24 ∈ [0x00, 0x01, 0x02, 0x03, 0x04, 0x05, 0x10, 0x20, 0x21, 0x22, 0x23, 0x30, 0x31, 0x32, 0x33,
        0x34, 0x40, 0x41, 0x42, 0x43, 0x44, 0x50, 0x51]) ∧
    ∀ i, decode width (.stimulus w) = some i → i.wellFormed width = true

/-- 20_memory.md R71: when the next script word decodes to an operation, a step is that operation on the state with the
word taken off the script, in a valid configuration; and the three ways a step refuses by itself (log 3, log 29). -/
def Obligations.StepRunsTheDecodedOperation : Prop :=
  (∀ (s : State) (w : ScriptWord) (rest : List ScriptWord) (i : Instr), s.cfg.valid = true → s.script = w :: rest →
    decode s.cfg.operandWidth w = some i → step s = exec i { s with script := rest }) ∧
  (∀ (s : State) (w : ScriptWord) (rest : List ScriptWord), s.cfg.valid = true → s.script = w :: rest →
    decode s.cfg.operandWidth w = none → step s = .refused (.unknownWord w)) ∧
  (∀ s : State, s.cfg.valid = true → s.script = [] → step s = .refused .emptyScript) ∧
  ∀ s : State, s.cfg.valid = false → step s = .refused .invalidConfig

/-- 20_memory.md R66 and 60_exceptions.md R244: no operation faults, and every operation but the two pattern rows
completes in every state. -/
def Obligations.EveryOperationCompletes : Prop :=
  ∀ (i : Instr) (s : State), isPattern i = false →
    ∃ t, exec i s = .next t ∧ t.cfg = s.cfg ∧ t.script = s.script

/-! ### Invariants and whole-machine rules -/

/-- 10_state.md R39 as one invariant holds at reset, whatever the valid parameters (`MODE ≠ RUN` there: log 4). -/
def Obligations.InvariantHoldsAtReset : Prop :=
  ∀ c : Config, c.valid = true → Inv (State.resetWith c) ∧ HostInv (State.resetWith c)

/-- 10_state.md R39: every step whose operation the hardware receives from outside, or the host takes, keeps the
invariant. (An internal step injected by a harness can break it.) `Inv` says more than R39 lists: items 5 and 6 are kept only
together with the level on the line, and outside `RUN` the four arm and enable bits are 0 (R40). Its item 8 bounds an armed
transmit compare before the first cell by `TX_FIRST_OFFSET`, which a valid configuration lets exceed `BIT_TIME` (log 28);
the last clause is R39's item 8, at the decided value. -/
def Obligations.StepKeepsTheInvariant : Prop :=
  ∀ (s t : State), Inv s → (∀ w rest i, s.script = w :: rest → decode s.cfg.operandWidth w = some i →
    isInternal i = false) → step s = .next t → Inv t ∧
    (t.cfg.txFirstOffset = t.cfg.bitTime → t.mode = .run → t.tx.arm = true →
      1 ≤ ticksAhead t.cfg t.tx.cmp t.cnt ∧ ticksAhead t.cfg t.tx.cmp t.cnt ≤ t.cfg.bitTime)

/-- 10_state.md R21 to R23: in every step of every operation, injected ones included, the counter and the compare
registers keep their `CNT_W` bits. -/
def Obligations.CountersKeepTheirWidth : Prop :=
  ∀ (i : Instr) (s t : State), CountersInRange s → exec i s = .next t → CountersInRange t

/-- 20_memory.md R76 and 41_transmit_engine.md R146: whatever the receive registers, the mailbox, the host and the lines
hold, the transmit registers after a tick depend only on the parameters, `MODE`, `CNT` and the transmit registers before it,
and no operation of the receive side or of the edge detector changes them. -/
def Obligations.TransmitIsIndependentOfReceive : Prop :=
  (∀ (s s' t t' : State) (r r' a a' : Level) (o o' : Bool), s.cfg = s'.cfg → s.mode = s'.mode → s.cnt = s'.cnt →
    s.tx = s'.tx → exec (.tick r a o) s = .next t → exec (.tick r' a' o') s' = .next t' → t.tx = t'.tx) ∧
  ∀ (s t : State) (b : Level), (exec (.rxStep b) s = .next t ∨ exec .rxEdge s = .next t ∨
    exec .auxEdge s = .next t ∨ exec .otherIrq s = .next t ∨ exec (.fire .rx) s = .next t) → t.tx = s.tx

/-- 20_memory.md R76, the other direction: the receive registers after a tick do not depend on the transmit registers,
and no transmit operation changes them. -/
def Obligations.ReceiveIsIndependentOfTransmit : Prop :=
  (∀ (s s' t t' : State) (r a a' : Level) (o o' : Bool), s.cfg = s'.cfg → s.mode = s'.mode → s.cnt = s'.cnt →
    s.rx = s'.rx → exec (.tick r a o) s = .next t → exec (.tick r a' o') s' = .next t' → t.rx = t'.rx) ∧
  ∀ (s t : State) (v : Byte) (b : Level), (exec (.send v) s = .next t ∨ exec .txStep s = .next t ∨
    exec (.writeLine b) s = .next t ∨ exec .statusRead s = .next t ∨ exec (.fire .tx) s = .next t) →
    t.rx = s.rx ∧ t.cmd = s.cmd

/-- 40_bit_clock.md R129: no absolute time. Moving `CNT`, `TXCMP` and `RXCMP` by one constant moves them in the next
state by the same constant and changes nothing else, for every operation; after `POR` and an `INIT` without a trim, which
leave the three unspecified (10_state.md R40; log 31), it changes nothing at all. -/
def Obligations.NoAbsoluteTime : Prop :=
  ∀ (i : Instr) (s t : State) (k : Nat), CountersInRange s → exec i s = .next t →
    ((i = .por ∨ s.mode = .uninit ∧ ∃ r a, i = .init false r a) → exec i (shiftTime k s) = .next t) ∧
    (¬(i = .por ∨ s.mode = .uninit ∧ ∃ r a, i = .init false r a) → exec i (shiftTime k s) = .next (shiftTime k t))

/-- 44_command_dispatcher.md R206, case (2), with `WAKE_LATCHED = false`: whatever happens between the host's read of the
command `c` and its `CMD_CLEAR`, ticks that write another command and pulse `wake` included (`ops`: anything but a `POR`
and the `HOST_WAIT` of a later pass), the host goes on with `c` and performs no other action; its `CMD_CLEAR` erases
whatever stands in `CMD`, and the host is left waiting, brought back by no pulse of that window, not even by one of the
last tick. The step size of the pass is the model's choice (log 11), and so is when a pulse is over (log 14). -/
def Obligations.CommandBetweenReadAndClearIsLost : Prop :=
  ∀ (s u : State) (c : Byte) (ops : List Instr), s.mode = .run → s.cfg.wakeLatched = false →
    s.host.mode = .dispatching → s.host.woken = false → s.host.heldWake = false → s.host.command = some c →
    (lookup s.cfg c).stayAwake = false → (∀ i ∈ ops, i ≠ .por ∧ i ≠ .hostWait) → runAll ops s = .next u →
    u.host.mode = .dispatching →
    u.host.command = some c ∧ u.host.led = s.host.led ∧
    ((lookup s.cfg c).response.length ≤ u.host.index → Answers .hostDispatch u fun v =>
      v.cmd = s.cfg.cmdIdle ∧ v.host.mode = .waiting ∧ v.host.led = s.host.led ∧
        exec .hostWait v = .next { v with result := .silent })

/-- 30_encoding.md R106 and 20_memory.md R74: `send_blocking` ends only with the `SEND` that is accepted, the waits used up
to then passing before it; and in every state with the invariant it does end, since a busy slot frees after at most
`TX_FIRST_OFFSET + 10 × BIT_TIME` ticks (R74's `11 × BIT_TIME` with the decided first offset; log 28). -/
def Obligations.RepeatedSendEndsAccepted : Prop :=
  (∀ (s t : State) (b : Byte) (waits left : List Wait), sendBlocking b waits s = some (t, left) →
    left <:+ waits ∧ t.result = .accepted true ∧ ∃ u, exec (.send b) u = .next t) ∧
  ∀ (s : State) (b : Byte) (waits : List Wait), Inv s → s.mode = .run →
    s.cfg.txFirstOffset + 10 * s.cfg.bitTime ≤ waits.length →
    ∃ t left, sendBlocking b waits s = some (t, left) ∧ t.tx.sr = framePattern b ∧ t.tx.cnt = 10#4 ∧ t.tx.busy = true
end

