-- ==== Sys2Proof/Laws/Encoding.lean ====
section
/-! SUPPORT. The two fields of a stimulus word and of the operands the encoder writes (30_encoding.md R101, R102). -/

namespace Sys2Proof

theorem tagOf_append (tag : BitVec 8) (o : BitVec 24) : tagOf (tag ++ o) = tag := by
  apply BitVec.eq_of_getLsbD_eq
  intro i hi
  simp only [tagOf, BitVec.getLsbD_extractLsb', BitVec.getLsbD_append, hi, decide_true, Bool.true_and]
  rw [if_neg (by omega), show 24 + i - 24 = i by omega]

theorem operandOf_append (tag : BitVec 8) (o : BitVec 24) : operandOf (tag ++ o) = o := by
  apply BitVec.eq_of_getLsbD_eq
  intro i hi
  simp only [operandOf, BitVec.getLsbD_extractLsb', BitVec.getLsbD_append, hi, decide_true, Bool.true_and]
  rw [if_pos (by omega), Nat.zero_add]

theorem bitsOperand_bits (b0 b1 b2 : Bool) :
    (bitsOperand b0 b1 b2).getLsbD 0 = b0 ∧ (bitsOperand b0 b1 b2).getLsbD 1 = b1 ∧ (bitsOperand b0 b1 b2).getLsbD 2 = b2 := by
  revert b0 b1 b2
  decide

theorem channelOperand_bit (c : Channel) : channelOf ((channelOperand c).getLsbD 16) = c := by
  revert c
  rintro (_ | _) <;> decide

theorem channelOf_bit (c : Channel) : channelOf c.bit = c := by cases c <;> rfl

theorem edgeOf_bit (e : Edge) : edgeOf e.bit = e := by cases e <;> rfl

/-- The value of a counter operand: its field, with the channel bit right above. -/
theorem counterOperand_toNat (width : Nat) (c : Channel) (n : Nat) (h : counterFits width n = true) :
    (counterOperand width c n).toNat = 2 ^ width * c.bit.toNat + n := by
  simp only [counterFits, Bool.and_eq_true, decide_eq_true_eq] at h
  have : 2 ^ width ≤ 2 ^ 23 := Nat.pow_le_pow_right (by omega) h.1
  rw [counterOperand, BitVec.toNat_ofNat, Nat.mod_eq_of_lt]
  cases c <;> simp [Channel.bit] <;> omega

theorem counterOf_counterOperand (width : Nat) (c : Channel) (n : Nat) (h : counterFits width n = true) :
    counterOf width (counterOperand width c n) = n := by
  rw [counterOf, counterOperand_toNat width c n h, Nat.mul_add_mod]
  simp only [counterFits, Bool.and_eq_true, decide_eq_true_eq] at h
  exact Nat.mod_eq_of_lt h.2

theorem channelOf_counterOperand (width : Nat) (c : Channel) (n : Nat) (h : counterFits width n = true) :
    channelOf ((counterOperand width c n).getLsbD width) = c := by
  have hn : n < 2 ^ width := by
    simp only [counterFits, Bool.and_eq_true, decide_eq_true_eq] at h
    exact h.2
  rw [BitVec.getLsbD, counterOperand_toNat width c n h, Nat.testBit_two_pow_mul_add _ hn]
  simp only [Nat.lt_irrefl, if_false, Nat.sub_self]
  cases c <;> rfl

end Sys2Proof
end

