-- ==== Sys2Proof/Laws/State.lean ====
section
/-! SUPPORT. The fields that each update leaves alone, one lemma a field. -/

namespace Sys2Proof.Machine

@[simp] theorem armAt_cfg (c : Channel) (v : Nat) (s : State) : (armAt c v s).cfg = s.cfg := by cases c <;> rfl
@[simp] theorem armAt_mode (c : Channel) (v : Nat) (s : State) : (armAt c v s).mode = s.mode := by cases c <;> rfl
@[simp] theorem armAt_cnt (c : Channel) (v : Nat) (s : State) : (armAt c v s).cnt = s.cnt := by cases c <;> rfl
@[simp] theorem armAt_auxIe (c : Channel) (v : Nat) (s : State) : (armAt c v s).auxIe = s.auxIe := by cases c <;> rfl
@[simp] theorem armAt_auxPrev (c : Channel) (v : Nat) (s : State) : (armAt c v s).auxPrev = s.auxPrev := by cases c <;> rfl
@[simp] theorem armAt_cmd (c : Channel) (v : Nat) (s : State) : (armAt c v s).cmd = s.cmd := by cases c <;> rfl
@[simp] theorem armAt_host (c : Channel) (v : Nat) (s : State) : (armAt c v s).host = s.host := by cases c <;> rfl
@[simp] theorem armAt_wake (c : Channel) (v : Nat) (s : State) : (armAt c v s).wake = s.wake := by cases c <;> rfl
@[simp] theorem armAt_result (c : Channel) (v : Nat) (s : State) : (armAt c v s).result = s.result := by cases c <;> rfl
@[simp] theorem armAt_script (c : Channel) (v : Nat) (s : State) : (armAt c v s).script = s.script := by cases c <;> rfl
@[simp] theorem armAt_draws (c : Channel) (v : Nat) (s : State) : (armAt c v s).draws = s.draws := by cases c <;> rfl
@[simp] theorem armAt_drawn (c : Channel) (v : Nat) (s : State) : (armAt c v s).drawn = s.drawn := by cases c <;> rfl

@[simp] theorem scheduleNext_cfg (c : Channel) (n : Nat) (s : State) : (scheduleNext c n s).cfg = s.cfg := armAt_cfg _ _ _
@[simp] theorem scheduleNext_mode (c : Channel) (n : Nat) (s : State) : (scheduleNext c n s).mode = s.mode := armAt_mode _ _ _
@[simp] theorem scheduleNext_cnt (c : Channel) (n : Nat) (s : State) : (scheduleNext c n s).cnt = s.cnt := armAt_cnt _ _ _
@[simp] theorem scheduleNext_auxIe (c : Channel) (n : Nat) (s : State) : (scheduleNext c n s).auxIe = s.auxIe := armAt_auxIe _ _ _
@[simp] theorem scheduleNext_auxPrev (c : Channel) (n : Nat) (s : State) : (scheduleNext c n s).auxPrev = s.auxPrev := armAt_auxPrev _ _ _
@[simp] theorem scheduleNext_cmd (c : Channel) (n : Nat) (s : State) : (scheduleNext c n s).cmd = s.cmd := armAt_cmd _ _ _
@[simp] theorem scheduleNext_host (c : Channel) (n : Nat) (s : State) : (scheduleNext c n s).host = s.host := armAt_host _ _ _
@[simp] theorem scheduleNext_wake (c : Channel) (n : Nat) (s : State) : (scheduleNext c n s).wake = s.wake := armAt_wake _ _ _
@[simp] theorem scheduleNext_result (c : Channel) (n : Nat) (s : State) : (scheduleNext c n s).result = s.result := armAt_result _ _ _
@[simp] theorem scheduleNext_script (c : Channel) (n : Nat) (s : State) : (scheduleNext c n s).script = s.script := armAt_script _ _ _
@[simp] theorem scheduleNext_draws (c : Channel) (n : Nat) (s : State) : (scheduleNext c n s).draws = s.draws := armAt_draws _ _ _
@[simp] theorem scheduleNext_drawn (c : Channel) (n : Nat) (s : State) : (scheduleNext c n s).drawn = s.drawn := armAt_drawn _ _ _

@[simp] theorem reschedule_cfg (c : Channel) (n : Nat) (s : State) : (reschedule c n s).cfg = s.cfg := armAt_cfg _ _ _
@[simp] theorem reschedule_mode (c : Channel) (n : Nat) (s : State) : (reschedule c n s).mode = s.mode := armAt_mode _ _ _
@[simp] theorem reschedule_cnt (c : Channel) (n : Nat) (s : State) : (reschedule c n s).cnt = s.cnt := armAt_cnt _ _ _
@[simp] theorem reschedule_auxIe (c : Channel) (n : Nat) (s : State) : (reschedule c n s).auxIe = s.auxIe := armAt_auxIe _ _ _
@[simp] theorem reschedule_auxPrev (c : Channel) (n : Nat) (s : State) : (reschedule c n s).auxPrev = s.auxPrev := armAt_auxPrev _ _ _
@[simp] theorem reschedule_cmd (c : Channel) (n : Nat) (s : State) : (reschedule c n s).cmd = s.cmd := armAt_cmd _ _ _
@[simp] theorem reschedule_host (c : Channel) (n : Nat) (s : State) : (reschedule c n s).host = s.host := armAt_host _ _ _
@[simp] theorem reschedule_wake (c : Channel) (n : Nat) (s : State) : (reschedule c n s).wake = s.wake := armAt_wake _ _ _
@[simp] theorem reschedule_result (c : Channel) (n : Nat) (s : State) : (reschedule c n s).result = s.result := armAt_result _ _ _
@[simp] theorem reschedule_script (c : Channel) (n : Nat) (s : State) : (reschedule c n s).script = s.script := armAt_script _ _ _
@[simp] theorem reschedule_draws (c : Channel) (n : Nat) (s : State) : (reschedule c n s).draws = s.draws := armAt_draws _ _ _
@[simp] theorem reschedule_drawn (c : Channel) (n : Nat) (s : State) : (reschedule c n s).drawn = s.drawn := armAt_drawn _ _ _

@[simp] theorem disable_cfg (c : Channel) (s : State) : (disable c s).cfg = s.cfg := by cases c <;> rfl
@[simp] theorem disable_mode (c : Channel) (s : State) : (disable c s).mode = s.mode := by cases c <;> rfl
@[simp] theorem disable_cnt (c : Channel) (s : State) : (disable c s).cnt = s.cnt := by cases c <;> rfl
@[simp] theorem disable_auxIe (c : Channel) (s : State) : (disable c s).auxIe = s.auxIe := by cases c <;> rfl
@[simp] theorem disable_auxPrev (c : Channel) (s : State) : (disable c s).auxPrev = s.auxPrev := by cases c <;> rfl
@[simp] theorem disable_cmd (c : Channel) (s : State) : (disable c s).cmd = s.cmd := by cases c <;> rfl
@[simp] theorem disable_host (c : Channel) (s : State) : (disable c s).host = s.host := by cases c <;> rfl
@[simp] theorem disable_wake (c : Channel) (s : State) : (disable c s).wake = s.wake := by cases c <;> rfl
@[simp] theorem disable_result (c : Channel) (s : State) : (disable c s).result = s.result := by cases c <;> rfl
@[simp] theorem disable_script (c : Channel) (s : State) : (disable c s).script = s.script := by cases c <;> rfl
@[simp] theorem disable_draws (c : Channel) (s : State) : (disable c s).draws = s.draws := by cases c <;> rfl
@[simp] theorem disable_drawn (c : Channel) (s : State) : (disable c s).drawn = s.drawn := by cases c <;> rfl

@[simp] theorem writeLine_cfg (b : Level) (s : State) : (writeLine b s).cfg = s.cfg := rfl
@[simp] theorem writeLine_mode (b : Level) (s : State) : (writeLine b s).mode = s.mode := rfl
@[simp] theorem writeLine_cnt (b : Level) (s : State) : (writeLine b s).cnt = s.cnt := rfl
@[simp] theorem writeLine_rx (b : Level) (s : State) : (writeLine b s).rx = s.rx := rfl
@[simp] theorem writeLine_auxIe (b : Level) (s : State) : (writeLine b s).auxIe = s.auxIe := rfl
@[simp] theorem writeLine_auxPrev (b : Level) (s : State) : (writeLine b s).auxPrev = s.auxPrev := rfl
@[simp] theorem writeLine_cmd (b : Level) (s : State) : (writeLine b s).cmd = s.cmd := rfl
@[simp] theorem writeLine_host (b : Level) (s : State) : (writeLine b s).host = s.host := rfl
@[simp] theorem writeLine_wake (b : Level) (s : State) : (writeLine b s).wake = s.wake := rfl
@[simp] theorem writeLine_result (b : Level) (s : State) : (writeLine b s).result = s.result := rfl
@[simp] theorem writeLine_script (b : Level) (s : State) : (writeLine b s).script = s.script := rfl
@[simp] theorem writeLine_draws (b : Level) (s : State) : (writeLine b s).draws = s.draws := rfl
@[simp] theorem writeLine_drawn (b : Level) (s : State) : (writeLine b s).drawn = s.drawn := rfl

@[simp] theorem emitWake_cfg (s : State) : (emitWake s).cfg = s.cfg := rfl
@[simp] theorem emitWake_mode (s : State) : (emitWake s).mode = s.mode := rfl
@[simp] theorem emitWake_cnt (s : State) : (emitWake s).cnt = s.cnt := rfl
@[simp] theorem emitWake_tx (s : State) : (emitWake s).tx = s.tx := rfl
@[simp] theorem emitWake_rx (s : State) : (emitWake s).rx = s.rx := rfl
@[simp] theorem emitWake_auxIe (s : State) : (emitWake s).auxIe = s.auxIe := rfl
@[simp] theorem emitWake_auxPrev (s : State) : (emitWake s).auxPrev = s.auxPrev := rfl
@[simp] theorem emitWake_cmd (s : State) : (emitWake s).cmd = s.cmd := rfl
@[simp] theorem emitWake_result (s : State) : (emitWake s).result = s.result := rfl
@[simp] theorem emitWake_script (s : State) : (emitWake s).script = s.script := rfl
@[simp] theorem emitWake_draws (s : State) : (emitWake s).draws = s.draws := rfl
@[simp] theorem emitWake_drawn (s : State) : (emitWake s).drawn = s.drawn := rfl

@[simp] theorem noPulse_cfg (s : State) : (noPulse s).cfg = s.cfg := rfl
@[simp] theorem noPulse_mode (s : State) : (noPulse s).mode = s.mode := rfl
@[simp] theorem noPulse_cnt (s : State) : (noPulse s).cnt = s.cnt := rfl
@[simp] theorem noPulse_tx (s : State) : (noPulse s).tx = s.tx := rfl
@[simp] theorem noPulse_rx (s : State) : (noPulse s).rx = s.rx := rfl
@[simp] theorem noPulse_auxIe (s : State) : (noPulse s).auxIe = s.auxIe := rfl
@[simp] theorem noPulse_auxPrev (s : State) : (noPulse s).auxPrev = s.auxPrev := rfl
@[simp] theorem noPulse_cmd (s : State) : (noPulse s).cmd = s.cmd := rfl
@[simp] theorem noPulse_result (s : State) : (noPulse s).result = s.result := rfl
@[simp] theorem noPulse_script (s : State) : (noPulse s).script = s.script := rfl
@[simp] theorem noPulse_draws (s : State) : (noPulse s).draws = s.draws := rfl
@[simp] theorem noPulse_drawn (s : State) : (noPulse s).drawn = s.drawn := rfl
@[simp] theorem noPulse_wake (s : State) : (noPulse s).wake = false := rfl
@[simp] theorem noPulse_host (s : State) : (noPulse s).host = { s.host with woken := false } := rfl

@[simp] theorem unspecify_cfg (s : State) : (unspecify s).cfg = s.cfg := rfl
@[simp] theorem unspecify_mode (s : State) : (unspecify s).mode = s.mode := rfl
@[simp] theorem unspecify_wake (s : State) : (unspecify s).wake = s.wake := rfl
@[simp] theorem unspecify_result (s : State) : (unspecify s).result = s.result := rfl
@[simp] theorem unspecify_script (s : State) : (unspecify s).script = s.script := rfl
@[simp] theorem unspecify_tx_arm (s : State) : (unspecify s).tx.arm = false := rfl
@[simp] theorem unspecify_rx_arm (s : State) : (unspecify s).rx.arm = false := rfl
@[simp] theorem unspecify_rx_ie (s : State) : (unspecify s).rx.ie = false := rfl
@[simp] theorem unspecify_auxIe (s : State) : (unspecify s).auxIe = false := rfl
@[simp] theorem unspecify_host (s : State) : (unspecify s).host = { s.host with led := drawBit s 13 } := rfl

@[simp] theorem unspecifyHost_cfg (s : State) : (unspecifyHost s).cfg = s.cfg := rfl
@[simp] theorem unspecifyHost_mode (s : State) : (unspecifyHost s).mode = s.mode := rfl
@[simp] theorem unspecifyHost_cnt (s : State) : (unspecifyHost s).cnt = s.cnt := rfl
@[simp] theorem unspecifyHost_tx (s : State) : (unspecifyHost s).tx = s.tx := rfl
@[simp] theorem unspecifyHost_rx (s : State) : (unspecifyHost s).rx = s.rx := rfl
@[simp] theorem unspecifyHost_auxIe (s : State) : (unspecifyHost s).auxIe = s.auxIe := rfl
@[simp] theorem unspecifyHost_auxPrev (s : State) : (unspecifyHost s).auxPrev = s.auxPrev := rfl
@[simp] theorem unspecifyHost_cmd (s : State) : (unspecifyHost s).cmd = s.cmd := rfl
@[simp] theorem unspecifyHost_wake (s : State) : (unspecifyHost s).wake = s.wake := rfl
@[simp] theorem unspecifyHost_result (s : State) : (unspecifyHost s).result = s.result := rfl
@[simp] theorem unspecifyHost_script (s : State) : (unspecifyHost s).script = s.script := rfl
@[simp] theorem unspecifyHost_led (s : State) : (unspecifyHost s).host.led = s.host.led := rfl

@[simp] theorem raiseFatal_mode (s : State) : (raiseFatal s).mode = .fatal := rfl
@[simp] theorem raiseFatal_cfg (s : State) : (raiseFatal s).cfg = s.cfg := rfl
@[simp] theorem raiseFatal_wake (s : State) : (raiseFatal s).wake = s.wake := rfl
@[simp] theorem raiseFatal_result (s : State) : (raiseFatal s).result = s.result := rfl
@[simp] theorem raiseFatal_script (s : State) : (raiseFatal s).script = s.script := rfl
@[simp] theorem raiseFatal_tx_arm (s : State) : (raiseFatal s).tx.arm = false := rfl
@[simp] theorem raiseFatal_rx_arm (s : State) : (raiseFatal s).rx.arm = false := rfl
@[simp] theorem raiseFatal_rx_ie (s : State) : (raiseFatal s).rx.ie = false := rfl
@[simp] theorem raiseFatal_auxIe (s : State) : (raiseFatal s).auxIe = false := rfl
@[simp] theorem raiseFatal_host (s : State) : (raiseFatal s).host = { s.host with led := drawBit s 13 } := rfl

@[simp] theorem skipDraws_cfg (n : Nat) (s : State) : (skipDraws n s).cfg = s.cfg := rfl
@[simp] theorem skipDraws_mode (n : Nat) (s : State) : (skipDraws n s).mode = s.mode := rfl
@[simp] theorem skipDraws_cnt (n : Nat) (s : State) : (skipDraws n s).cnt = s.cnt := rfl
@[simp] theorem skipDraws_tx (n : Nat) (s : State) : (skipDraws n s).tx = s.tx := rfl
@[simp] theorem skipDraws_rx (n : Nat) (s : State) : (skipDraws n s).rx = s.rx := rfl
@[simp] theorem skipDraws_auxIe (n : Nat) (s : State) : (skipDraws n s).auxIe = s.auxIe := rfl
@[simp] theorem skipDraws_auxPrev (n : Nat) (s : State) : (skipDraws n s).auxPrev = s.auxPrev := rfl
@[simp] theorem skipDraws_cmd (n : Nat) (s : State) : (skipDraws n s).cmd = s.cmd := rfl
@[simp] theorem skipDraws_host (n : Nat) (s : State) : (skipDraws n s).host = s.host := rfl
@[simp] theorem skipDraws_wake (n : Nat) (s : State) : (skipDraws n s).wake = s.wake := rfl
@[simp] theorem skipDraws_result (n : Nat) (s : State) : (skipDraws n s).result = s.result := rfl
@[simp] theorem skipDraws_script (n : Nat) (s : State) : (skipDraws n s).script = s.script := rfl

@[simp] theorem clearCmd_cfg (s : State) : (clearCmd s).cfg = s.cfg := rfl
@[simp] theorem clearCmd_mode (s : State) : (clearCmd s).mode = s.mode := rfl
@[simp] theorem clearCmd_cnt (s : State) : (clearCmd s).cnt = s.cnt := rfl
@[simp] theorem clearCmd_tx (s : State) : (clearCmd s).tx = s.tx := rfl
@[simp] theorem clearCmd_rx (s : State) : (clearCmd s).rx = s.rx := rfl
@[simp] theorem clearCmd_auxIe (s : State) : (clearCmd s).auxIe = s.auxIe := rfl
@[simp] theorem clearCmd_auxPrev (s : State) : (clearCmd s).auxPrev = s.auxPrev := rfl
@[simp] theorem clearCmd_host (s : State) : (clearCmd s).host = s.host := rfl
@[simp] theorem clearCmd_wake (s : State) : (clearCmd s).wake = s.wake := rfl
@[simp] theorem clearCmd_result (s : State) : (clearCmd s).result = s.result := rfl
@[simp] theorem clearCmd_script (s : State) : (clearCmd s).script = s.script := rfl
@[simp] theorem clearCmd_draws (s : State) : (clearCmd s).draws = s.draws := rfl
@[simp] theorem clearCmd_drawn (s : State) : (clearCmd s).drawn = s.drawn := rfl

@[simp] theorem loadFrame_cfg (v : Byte) (s : State) : (loadFrame v s).cfg = s.cfg := rfl
@[simp] theorem loadFrame_mode (v : Byte) (s : State) : (loadFrame v s).mode = s.mode := rfl
@[simp] theorem loadFrame_cnt (v : Byte) (s : State) : (loadFrame v s).cnt = s.cnt := rfl
@[simp] theorem loadFrame_rx (v : Byte) (s : State) : (loadFrame v s).rx = s.rx := rfl
@[simp] theorem loadFrame_auxIe (v : Byte) (s : State) : (loadFrame v s).auxIe = s.auxIe := rfl
@[simp] theorem loadFrame_auxPrev (v : Byte) (s : State) : (loadFrame v s).auxPrev = s.auxPrev := rfl
@[simp] theorem loadFrame_cmd (v : Byte) (s : State) : (loadFrame v s).cmd = s.cmd := rfl
@[simp] theorem loadFrame_host (v : Byte) (s : State) : (loadFrame v s).host = s.host := rfl
@[simp] theorem loadFrame_wake (v : Byte) (s : State) : (loadFrame v s).wake = s.wake := rfl
@[simp] theorem loadFrame_result (v : Byte) (s : State) : (loadFrame v s).result = s.result := rfl
@[simp] theorem loadFrame_script (v : Byte) (s : State) : (loadFrame v s).script = s.script := rfl
@[simp] theorem loadFrame_draws (v : Byte) (s : State) : (loadFrame v s).draws = s.draws := rfl
@[simp] theorem loadFrame_drawn (v : Byte) (s : State) : (loadFrame v s).drawn = s.drawn := rfl

@[simp] theorem rxEdge_cfg (s : State) : (rxEdge s).cfg = s.cfg := rfl
@[simp] theorem rxEdge_mode (s : State) : (rxEdge s).mode = s.mode := rfl
@[simp] theorem rxEdge_cnt (s : State) : (rxEdge s).cnt = s.cnt := rfl
@[simp] theorem rxEdge_tx (s : State) : (rxEdge s).tx = s.tx := rfl
@[simp] theorem rxEdge_auxIe (s : State) : (rxEdge s).auxIe = s.auxIe := rfl
@[simp] theorem rxEdge_auxPrev (s : State) : (rxEdge s).auxPrev = s.auxPrev := rfl
@[simp] theorem rxEdge_cmd (s : State) : (rxEdge s).cmd = s.cmd := rfl
@[simp] theorem rxEdge_host (s : State) : (rxEdge s).host = s.host := rfl
@[simp] theorem rxEdge_wake (s : State) : (rxEdge s).wake = s.wake := rfl
@[simp] theorem rxEdge_result (s : State) : (rxEdge s).result = s.result := rfl
@[simp] theorem rxEdge_script (s : State) : (rxEdge s).script = s.script := rfl
@[simp] theorem rxEdge_draws (s : State) : (rxEdge s).draws = s.draws := rfl
@[simp] theorem rxEdge_drawn (s : State) : (rxEdge s).drawn = s.drawn := rfl

@[simp] theorem auxEdge_cfg (s : State) : (auxEdge s).cfg = s.cfg := rfl
@[simp] theorem auxEdge_mode (s : State) : (auxEdge s).mode = s.mode := rfl
@[simp] theorem auxEdge_cnt (s : State) : (auxEdge s).cnt = s.cnt := rfl
@[simp] theorem auxEdge_tx (s : State) : (auxEdge s).tx = s.tx := rfl
@[simp] theorem auxEdge_rx (s : State) : (auxEdge s).rx = s.rx := rfl
@[simp] theorem auxEdge_auxIe (s : State) : (auxEdge s).auxIe = s.auxIe := rfl
@[simp] theorem auxEdge_auxPrev (s : State) : (auxEdge s).auxPrev = s.auxPrev := rfl
@[simp] theorem auxEdge_result (s : State) : (auxEdge s).result = s.result := rfl
@[simp] theorem auxEdge_script (s : State) : (auxEdge s).script = s.script := rfl
@[simp] theorem auxEdge_draws (s : State) : (auxEdge s).draws = s.draws := rfl
@[simp] theorem auxEdge_drawn (s : State) : (auxEdge s).drawn = s.drawn := rfl

@[simp] theorem tickCount_cfg (s : State) : (tickCount s).cfg = s.cfg := rfl
@[simp] theorem tickCount_mode (s : State) : (tickCount s).mode = s.mode := rfl
@[simp] theorem tickCount_tx (s : State) : (tickCount s).tx = s.tx := rfl
@[simp] theorem tickCount_rx (s : State) : (tickCount s).rx = s.rx := rfl
@[simp] theorem tickCount_auxIe (s : State) : (tickCount s).auxIe = s.auxIe := rfl
@[simp] theorem tickCount_auxPrev (s : State) : (tickCount s).auxPrev = s.auxPrev := rfl
@[simp] theorem tickCount_cmd (s : State) : (tickCount s).cmd = s.cmd := rfl
@[simp] theorem tickCount_host (s : State) : (tickCount s).host = { s.host with woken := false } := rfl
@[simp] theorem tickCount_result (s : State) : (tickCount s).result = s.result := rfl
@[simp] theorem tickCount_script (s : State) : (tickCount s).script = s.script := rfl
@[simp] theorem tickCount_draws (s : State) : (tickCount s).draws = s.draws := rfl
@[simp] theorem tickCount_drawn (s : State) : (tickCount s).drawn = s.drawn := rfl

@[simp] theorem tickPrev_cfg (r a : Level) (s : State) : (tickPrev r a s).cfg = s.cfg := rfl
@[simp] theorem tickPrev_mode (r a : Level) (s : State) : (tickPrev r a s).mode = s.mode := rfl
@[simp] theorem tickPrev_cnt (r a : Level) (s : State) : (tickPrev r a s).cnt = s.cnt := rfl
@[simp] theorem tickPrev_tx (r a : Level) (s : State) : (tickPrev r a s).tx = s.tx := rfl
@[simp] theorem tickPrev_auxIe (r a : Level) (s : State) : (tickPrev r a s).auxIe = s.auxIe := rfl
@[simp] theorem tickPrev_cmd (r a : Level) (s : State) : (tickPrev r a s).cmd = s.cmd := rfl
@[simp] theorem tickPrev_host (r a : Level) (s : State) : (tickPrev r a s).host = s.host := rfl
@[simp] theorem tickPrev_wake (r a : Level) (s : State) : (tickPrev r a s).wake = s.wake := rfl
@[simp] theorem tickPrev_result (r a : Level) (s : State) : (tickPrev r a s).result = s.result := rfl
@[simp] theorem tickPrev_script (r a : Level) (s : State) : (tickPrev r a s).script = s.script := rfl
@[simp] theorem tickPrev_draws (r a : Level) (s : State) : (tickPrev r a s).draws = s.draws := rfl
@[simp] theorem tickPrev_drawn (r a : Level) (s : State) : (tickPrev r a s).drawn = s.drawn := rfl
@[simp] theorem armAt_tx_rx (v : Nat) (s : State) : (armAt .tx v s).rx = s.rx := rfl
@[simp] theorem armAt_rx_tx (v : Nat) (s : State) : (armAt .rx v s).tx = s.tx := rfl
@[simp] theorem disable_tx_rx (s : State) : (disable .tx s).rx = s.rx := rfl
@[simp] theorem disable_rx_tx (s : State) : (disable .rx s).tx = s.tx := rfl
@[simp] theorem scheduleNext_tx_rx (n : Nat) (s : State) : (scheduleNext .tx n s).rx = s.rx := rfl
@[simp] theorem scheduleNext_rx_tx (n : Nat) (s : State) : (scheduleNext .rx n s).tx = s.tx := rfl
@[simp] theorem reschedule_tx_rx (n : Nat) (s : State) : (reschedule .tx n s).rx = s.rx := rfl
@[simp] theorem reschedule_rx_tx (n : Nat) (s : State) : (reschedule .rx n s).tx = s.tx := rfl
@[simp] theorem clearInterruptFlags_eq (s : State) : clearInterruptFlags s = s := rfl
@[simp] theorem otherIrq_eq (s : State) : otherIrq s = s := rfl
@[simp] theorem readLine_eq (b : Level) : readLine b = b := rfl

end Sys2Proof.Machine
end

