-- ==== Sys2Proof/Laws/Engines.lean ====
section
/-! SUPPORT. What each shared operation can do, said once: the engines as functions of their own registers, and a tick
field by field. Later proofs cite these instead of unfolding the operations. -/

namespace Sys2Proof.Machine

/-! ### How a meaning ends -/

@[simp] theorem answer_eq (r : Result) (s : State) : answer r s = .next { s with result := r } := rfl
@[simp] theorem done_eq (s : State) : done s = .next { s with result := .silent } := rfl
@[simp] theorem refuse_eq (s : State) : refuse s = .next { s with result := .silent } := rfl

/-- An injected step runs unless the block is in `FATAL`. -/
theorem injected_run (f : State → State) (s : State) (h : s.mode ≠ .fatal) :
    injected f s = .next { f s with result := .silent } := by
  simp [injected, h]

/-- In `FATAL` an injected step is refused. -/
theorem injected_fatal (f : State → State) (s : State) (h : s.mode = .fatal) :
    injected f s = .next { s with result := .silent } := by
  simp [injected, h]

theorem injected_cases (f : State → State) (s t : State) (h : injected f s = .next t) :
    (s.mode = .fatal ∧ t = { s with result := .silent }) ∨
      (s.mode ≠ .fatal ∧ t = { f s with result := .silent }) := by
  by_cases hm : s.mode = .fatal
  · rw [injected_fatal f s hm] at h
    exact .inl ⟨hm, by simpa using h.symm⟩
  · rw [injected_run f s hm] at h
    exact .inr ⟨hm, by simpa using h.symm⟩

/-! ### Counter arithmetic -/

theorem modulus_pos (c : Config) : 0 < c.modulus := Nat.two_pow_pos _

theorem counterAdd_lt (c : Config) (a b : Nat) : counterAdd c a b < c.modulus := Nat.mod_lt _ (modulus_pos c)

theorem counterAdd_assoc (c : Config) (a b d : Nat) :
    counterAdd c (counterAdd c a b) d = counterAdd c a (b + d) := by
  simp [counterAdd, Nat.add_assoc]

/-- Two counter values below `2^CNT_W` moved by the same amount are equal exactly when they were. -/
theorem counterAdd_inj (c : Config) (a b k : Nat) (ha : a < c.modulus) (hb : b < c.modulus) :
    counterAdd c a k = counterAdd c b k ↔ a = b := by
  constructor
  · intro h
    have h' : a ≡ b [MOD c.modulus] := Nat.ModEq.add_right_cancel' k h
    rwa [Nat.ModEq, Nat.mod_eq_of_lt ha, Nat.mod_eq_of_lt hb] at h'
  · rintro rfl; rfl

/-! ### The tests and the shift patterns, as numbers -/

theorem fires_iff (arm : Bool) (cmp cnt : Nat) : fires arm cmp cnt = true ↔ arm = true ∧ cnt = cmp := by
  simp [fires]

theorem fires_false_iff (arm : Bool) (cmp cnt : Nat) : fires arm cmp cnt = false ↔ ¬(arm = true ∧ cnt = cmp) := by
  rw [← fires_iff, Bool.not_eq_true]

theorem edgeAccepted_iff (ie : Bool) (prev level : Level) :
    edgeAccepted ie prev level = true ↔ ie = true ∧ prev = true ∧ level = false := by
  cases ie <;> cases prev <;> cases level <;> decide

theorem edgeAccepted_false_iff (ie : Bool) (prev level : Level) :
    edgeAccepted ie prev level = false ↔ ¬(ie = true ∧ prev = true ∧ level = false) := by
  rw [← edgeAccepted_iff, Bool.not_eq_true]

/-- `RXCNT − 1 = 0` means one sample is left. -/
theorem rxDone_iff (x : BitVec 4) : rxDone x = true ↔ x = 1#4 := by
  revert x; decide

theorem rxUnderflows_iff (x : BitVec 4) : rxUnderflows x = true ↔ x = 0#4 := by
  simp [rxUnderflows]

theorem txDone_iff (x : BitVec 4) : txDone x = true ↔ x = 0#4 := by
  simp [txDone]

/-- A down-counter that is not 0 loses exactly 1 (R130). -/
theorem toNat_sub_one (x : BitVec 4) (h : x ≠ 0#4) : (x - 1#4).toNat = x.toNat - 1 := by
  revert x; decide

theorem shiftOut_toNat (x : Pattern) : (shiftOut x).toNat = x.toNat / 2 := by
  simp [shiftOut, BitVec.toNat_ushiftRight, Nat.shiftRight_one]

theorem shiftOut_getLsbD (x : Pattern) (i : Nat) : (shiftOut x).getLsbD i = x.getLsbD (i + 1) := by
  simp [shiftOut, Nat.add_comm]

theorem shiftIn_toNat (b : Level) (x : Pattern) : (shiftIn b x).toNat = 2 ^ 9 * b.toNat + x.toNat / 2 := by
  revert x; cases b <;> decide +kernel

/-- The new sample stands at bit 9, the rest one place down (R94). -/
theorem shiftIn_getLsbD (b : Level) (x : Pattern) (i : Nat) :
    (shiftIn b x).getLsbD i = if i = 9 then b else x.getLsbD (i + 1) := by
  by_cases h : i < 10
  · interval_cases i <;> cases b <;> simp [shiftIn]
  · have h9 : i ≠ 9 := by omega
    rw [if_neg h9, BitVec.getLsbD_of_ge _ _ (by omega), BitVec.getLsbD_of_ge _ _ (by omega)]

/-- Bit `i` of the delivered byte stands at bit `i + 1` of the accumulator (R95). -/
theorem receivedByte_getLsbD (x : Pattern) (i : Nat) (h : i < 8) : (receivedByte x).getLsbD i = x.getLsbD (i + 1) := by
  simp [receivedByte, h, Nat.add_comm]

theorem receivedByte_toNat (x : Pattern) : (receivedByte x).toNat = x.toNat / 2 % 2 ^ 8 := by
  rw [receivedByte, BitVec.extractLsb'_toNat, Nat.shiftRight_one]

/-- `0x200 + 2 × v` (R92). -/
theorem framePattern_toNat (v : Byte) : (framePattern v).toNat = 0x200 + 2 * v.toNat := by
  revert v; decide +kernel

/-! ### The engines as functions of their registers -/

/-- What a transmit event does to the transmit registers. -/
def txEvent (c : Config) (x : TxRegs) : TxRegs :=
  if txDone x.cnt then { x with cmp := counterAdd c x.cmp c.bitTime, arm := false, busy := false }
  else { x with cmp := counterAdd c x.cmp c.bitTime, arm := true, txd := nextCell x.sr, sr := shiftOut x.sr,
                cnt := x.cnt - 1#4 }

/-- `TX_STEP` changes the transmit registers only. -/
theorem txStep_eq (s : State) : txStep s = { s with tx := txEvent s.cfg s.tx } := by
  by_cases h : txDone s.tx.cnt <;> simp [txStep, txEvent, reschedule, armAt, compareOf, disable, writeLine, h]

/-- The arm bit before a transmit event does not matter. -/
theorem txEvent_arm (c : Config) (x : TxRegs) (b : Bool) : txEvent c { x with arm := b } = txEvent c x := by
  by_cases h : txDone x.cnt <;> simp [txEvent, h]

theorem fire_tx_eq (r : Level) (s : State) : fire .tx r s = { s with tx := txEvent s.cfg s.tx } := by
  simp only [fire, txStep_eq, disable]
  rw [txEvent_arm]

/-- What a receive event does to the receive registers. -/
def rxEvent (c : Config) (b : Level) (x : RxRegs) : RxRegs :=
  if rxUnderflows x.cnt then x
  else if rxDone x.cnt then
    { x with cmp := counterAdd c x.cmp c.bitTime, arm := false, sr := shiftIn b x.sr, cnt := x.cnt - 1#4, act := false,
             ie := true }
  else { x with cmp := counterAdd c x.cmp c.bitTime, arm := true, sr := shiftIn b x.sr, cnt := x.cnt - 1#4 }

/-- `RX_STEP` changes the receive registers; only the completing one also posts the byte and emits `wake`. -/
theorem rxStep_eq (b : Level) (s : State) :
    rxStep b s = if rxDone s.rx.cnt
      then emitWake { s with rx := rxEvent s.cfg b s.rx, cmd := receivedByte (shiftIn b s.rx.sr) }
      else { s with rx := rxEvent s.cfg b s.rx } := by
  by_cases hu : rxUnderflows s.rx.cnt
  · have hd : rxDone s.rx.cnt = false := by
      simp only [rxUnderflows, beq_iff_eq] at hu
      simp [rxDone, hu]
    simp [rxStep, rxEvent, hu, hd]
  · by_cases hd : rxDone s.rx.cnt <;>
      simp [rxStep, rxEvent, rxComplete, reschedule, armAt, compareOf, disable, hu, hd, emitWake]

/-- The registers right after `RX_EDGE` (R161). -/
def rxStarted (c : Config) (cnt : Nat) (x : RxRegs) : RxRegs :=
  { x with cmp := counterAdd c cnt c.halfBit, arm := true, sr := 0#10, cnt := 10#4, act := true, ie := false }

theorem rxEdge_eq (s : State) : rxEdge s = { s with rx := rxStarted s.cfg s.cnt s.rx } := rfl

theorem auxEdge_eq (s : State) : auxEdge s = emitWake { s with cmd := s.cfg.cmdAux } := rfl

/-! ### A tick, field by field -/

/-- The counter after a tick. -/
abbrev nextCnt (s : State) : Nat := counterAdd s.cfg s.cnt 1

/-- The receive channel fires in this tick. -/
abbrev rxFires (s : State) : Bool := fires s.rx.arm s.rx.cmp (nextCnt s)

/-- A reception completes in this tick. -/
abbrev rxCompletes (s : State) : Bool := rxFires s && rxDone s.rx.cnt

/-- An auxiliary edge is accepted in this tick. -/
abbrev auxAccepted (s : State) (a : Level) : Bool := edgeAccepted s.auxIe s.auxPrev a

/-- The transmit registers after a tick: a function of the parameters, `CNT` and themselves. -/
def txTick (c : Config) (cnt : Nat) (x : TxRegs) : TxRegs :=
  if fires x.arm x.cmp cnt then txEvent c x else x

/-- The receive registers after a tick: a function of the parameters, `CNT`, the receive line and themselves. -/
def rxTick (c : Config) (cnt : Nat) (r : Level) (x : RxRegs) : RxRegs :=
  let y := if fires x.arm x.cmp cnt then rxEvent c r { x with arm := false } else x
  { (if edgeAccepted y.ie y.prev r then rxStarted c cnt y else y) with prev := r }

@[simp] theorem tickOther_eq (o : Bool) (s : State) : tickOther o s = s := by cases o <;> rfl

theorem tickTx_eq (r : Level) (s : State) : tickTx r s = { s with tx := txTick s.cfg s.cnt s.tx } := by
  by_cases h : fires s.tx.arm s.tx.cmp s.cnt <;> simp [tickTx, txTick, h, fire_tx_eq]

/-- The host after a step that emitted `wake` or not: a waiting one is woken, a dispatching one remembers the pulse with
`WAKE_LATCHED`. -/
def hostHears (c : Config) (wake : Bool) (x : HostAgent) : HostAgent :=
  { x with woken := x.woken || (x.mode == .waiting && wake), heldWake := x.heldWake || (c.wakeLatched && x.mode == .dispatching && wake) }

theorem hostHears_false (c : Config) (x : HostAgent) : hostHears c false x = x := by
  simp [hostHears]

theorem emitWake_eq (s : State) : emitWake s = { s with wake := true, host := hostHears s.cfg true s.host } := by
  simp [emitWake, hostHears]

theorem tickRx_eq (r : Level) (s : State) :
    tickRx r s = if fires s.rx.arm s.rx.cmp s.cnt && rxDone s.rx.cnt
      then { s with rx := rxEvent s.cfg r { s.rx with arm := false }, cmd := receivedByte (shiftIn r s.rx.sr),
                    wake := true, host := hostHears s.cfg true s.host }
      else if fires s.rx.arm s.rx.cmp s.cnt then { s with rx := rxEvent s.cfg r { s.rx with arm := false } }
      else s := by
  by_cases h : fires s.rx.arm s.rx.cmp s.cnt <;> by_cases hd : rxDone s.rx.cnt <;>
    simp [tickRx, h, fire, rxStep_eq, disable, hd, emitWake_eq]

theorem tickRxEdge_eq (r : Level) (s : State) :
    tickRxEdge r s = { s with rx := if edgeAccepted s.rx.ie s.rx.prev r then rxStarted s.cfg s.cnt s.rx else s.rx } := by
  by_cases h : edgeAccepted s.rx.ie s.rx.prev r <;> simp [tickRxEdge, h, rxEdge_eq]

theorem tickAuxEdge_eq (a : Level) (s : State) :
    tickAuxEdge a s = if edgeAccepted s.auxIe s.auxPrev a
      then { s with cmd := s.cfg.cmdAux, wake := true, host := hostHears s.cfg true s.host } else s := by
  by_cases h : edgeAccepted s.auxIe s.auxPrev a <;> simp [tickAuxEdge, h, auxEdge_eq, emitWake_eq]

/-- A tick in one record: what every field becomes (R120). -/
theorem tick_eq (r a : Level) (o : Bool) (s : State) :
    tick r a o s = { s with
      cnt := nextCnt s
      tx := txTick s.cfg (nextCnt s) s.tx
      rx := rxTick s.cfg (nextCnt s) r s.rx
      auxPrev := a
      cmd := if auxAccepted s a then s.cfg.cmdAux
        else if rxCompletes s then receivedByte (shiftIn r s.rx.sr) else s.cmd
      wake := rxCompletes s || auxAccepted s a
      host := hostHears s.cfg (rxCompletes s || auxAccepted s a) { s.host with woken := false } } := by
  have hh : ∀ x : HostAgent, hostHears s.cfg true (hostHears s.cfg true x) = hostHears s.cfg true x := by
    intro x
    simp [hostHears]
  simp only [tick, tickOther_eq, tickTx_eq, tickCount, noPulse, tickRx_eq, tickRxEdge_eq, tickAuxEdge_eq, tickPrev, rxTick,
    nextCnt, rxFires, rxCompletes, auxAccepted]
  by_cases hf : fires s.rx.arm s.rx.cmp (counterAdd s.cfg s.cnt 1) <;> by_cases hd : rxDone s.rx.cnt <;>
    by_cases ha : edgeAccepted s.auxIe s.auxPrev a <;> simp [hf, hd, ha, hh, hostHears_false]

theorem exec_tick_run (r a : Level) (o : Bool) (s : State) (h : s.mode = .run) :
    exec (.tick r a o) s = .next { tick r a o s with result := .silent } := by
  simp [exec, execTick, h]

theorem exec_tick_off (r a : Level) (o : Bool) (s : State) (h : s.mode ≠ .run) :
    exec (.tick r a o) s = .next { s with wake := false, result := .silent } := by
  simp [exec, execTick, h]

end Sys2Proof.Machine
end

