-- ==== Sys2Proof/Laws/Exec.lean ====
section
/-! SUPPORT. What every operation can do, said once: `nextState` gives, per operation, the next state as one record over
the engines' functions of Engines.lean, and `exec_eq_nextState` says that `exec` answers exactly it. -/

namespace Sys2Proof.Machine

/-- The state `s` with nothing returned. -/
abbrev silently (s : State) : State := { s with result := .silent }

/-- `f s` outside `FATAL`, nothing changed in it: the next state of an injected step. -/
def unlessFatal (s t : State) : State := if s.mode = .fatal then silently s else silently t

/-- The transmit registers after an accepted `SEND` (R140). -/
def txLoaded (c : Config) (cnt : Nat) (v : Byte) (x : TxRegs) : TxRegs :=
  { x with cmp := counterAdd c cnt c.txFirstOffset, arm := true, sr := framePattern v, cnt := 10#4, busy := true }

theorem loadFrame_eq (v : Byte) (s : State) : loadFrame v s = { s with tx := txLoaded s.cfg s.cnt v s.tx } := rfl

/-- The state after `INIT(some t, rxd, aux)` (R281). -/
theorem startUp_eq (r a : Level) (s : State) : startUp r a s = { s with
    mode := .run
    tx := { cmp := s.tx.cmp, arm := false, sr := 0#10, cnt := 0#4, busy := false, txd := true }
    rx := { cmp := s.rx.cmp, arm := false, sr := 0#10, cnt := 0#4, act := false, ie := true, prev := r }
    auxIe := true, auxPrev := a, cmd := s.cfg.cmdIdle, wake := false
    host := { mode := .waiting, led := s.host.led, command := none, index := 0, woken := false, heldWake := false } } := rfl

/-- The state after the completing, the sampling or the refused `RX_STEP` (R180). -/
def rxStepped (b : Level) (s : State) : State :=
  if rxDone s.rx.cnt then
    { s with rx := rxEvent s.cfg b s.rx, cmd := receivedByte (shiftIn b s.rx.sr), wake := true,
             host := hostHears s.cfg true s.host }
  else { s with rx := rxEvent s.cfg b s.rx }

theorem rxStep_eq_rxStepped (b : Level) (s : State) : rxStep b s = rxStepped b s := by
  by_cases h : rxDone s.rx.cnt <;> simp [rxStep_eq, rxStepped, h, emitWake_eq]

/-- The host's next operation of a dispatch pass (R201). -/
def dispatched (s : State) : State :=
  match s.host.command with
  | none => { s with
      host := { s.host with command := some s.cmd, index := 0,
                            led := s.host.led ^^ ((lookup s.cfg s.cmd).action == .toggleLed) }
      result := .cmd s.cmd }
  | some v =>
    match (lookup s.cfg v).response[s.host.index]? with
    | some b =>
      if s.tx.busy then { s with result := .accepted false }
      else { s with tx := txLoaded s.cfg s.cnt b s.tx, host.index := s.host.index + 1, result := .accepted true }
    | none => { s with
        cmd := s.cfg.cmdIdle
        host := { s.host with
          command := none, index := 0,
          heldWake := s.host.heldWake && (lookup s.cfg v).stayAwake
          mode := if (lookup s.cfg v).stayAwake || s.host.heldWake then s.host.mode else .waiting }
        result := .silent }

/-- The next state of every operation (the two pattern rows, which have none, apart). -/
def nextState (i : Instr) (s : State) : State :=
  match i with
  | .por => silently (powerOn s)
  | .init p r a =>
    if s.mode = .uninit then silently (if p then startUp r a s else noPulse (raiseFatal s)) else silently s
  | .send v =>
    if s.mode = .run then
      if s.tx.busy then { s with result := .accepted false }
      else { s with tx := txLoaded s.cfg s.cnt v s.tx, result := .accepted true }
    else silently s
  | .statusRead =>
    if s.mode = .run then { s with result := .txBusy s.tx.busy }
    else { skipDraws 1 s with result := .txBusy (drawBit s 0) }
  | .cmdRead =>
    if s.mode = .run then { s with result := .cmd s.cmd } else { skipDraws 1 s with result := .cmd (drawBits 8 s 0) }
  | .cmdClear => if s.mode = .run then { s with cmd := s.cfg.cmdIdle, result := .silent } else silently s
  | .tick r a o => if s.mode = .run then silently (tick r a o s) else { s with wake := false, result := .silent }
  | .scheduleNext c n => unlessFatal s (armAt c (counterAdd s.cfg s.cnt n) s)
  | .reschedule c n => unlessFatal s (armAt c (counterAdd s.cfg (compareOf c s) n) s)
  | .disable c => unlessFatal s (disable c s)
  | .fire .tx => unlessFatal s { s with tx := txEvent s.cfg s.tx }
  | .fire .rx => unlessFatal s (rxStepped (drawBit s 0) (disable .rx (skipDraws 1 s)))
  | .txStep => unlessFatal s { s with tx := txEvent s.cfg s.tx }
  | .rxStep b => unlessFatal s (rxStepped b s)
  | .rxEdge => unlessFatal s { s with rx := rxStarted s.cfg s.cnt s.rx }
  | .auxEdge => unlessFatal s { s with cmd := s.cfg.cmdAux, wake := true, host := hostHears s.cfg true s.host }
  | .otherIrq => silently s
  | .readLine => { skipDraws 1 s with result := .level (drawBit s 0) }
  | .writeLine b => unlessFatal s { s with tx.txd := b }
  | .configureEdgeInterrupt e r a => unlessFatal s (configureEdgeInterrupt e r a s)
  | .clearInterruptFlags => silently s
  | .getCalibratedTrim => { skipDraws 2 s with result := .trim (drawOption s 0) }
  | .hostWait =>
    if s.mode = .run ∧ s.host.mode = .waiting ∧ s.host.woken = true then
      { s with host := { s.host with mode := .dispatching, command := none, index := 0, woken := false }, result := .silent }
    else silently s
  | .hostDispatch => if s.mode = .run ∧ s.host.mode = .dispatching then dispatched s else silently s
  | .frame _ => s
  | .txsrPattern _ => s

theorem injected_eq (f : State → State) (s : State) : injected f s = .next (unlessFatal s (f s)) := by
  by_cases h : s.mode = .fatal <;> simp [injected, unlessFatal, h]

theorem execHostDispatch_eq (s : State) (h : s.mode = .run ∧ s.host.mode = .dispatching) :
    execHostDispatch s = .next (dispatched s) := by
  rw [execHostDispatch, if_pos h, dispatched]
  cases hc : s.host.command with
  | none =>
    have hi : (HostAction.idle == HostAction.toggleLed) = false := by decide
    cases ha : (lookup s.cfg s.cmd).action <;> simp [dispatchRead, perform, ha, hi]
  | some v =>
    cases hb : (lookup s.cfg v).response[s.host.index]? with
    | some b => by_cases ht : s.tx.busy <;> simp [hb, dispatchSend, ht, loadFrame_eq]
    | none =>
      cases hs : (lookup s.cfg v).stayAwake <;> cases hw : s.host.heldWake <;>
        simp [hb, dispatchClear, enterWaiting, clearCmd, hs, hw]

/-- Every operation answers its next state; only the two pattern rows answer none. -/
theorem exec_eq_nextState (i : Instr) (s : State) (h : isPattern i = false) : exec i s = .next (nextState i s) := by
  cases i with
  | frame | txsrPattern => simp [isPattern] at h
  | por => rfl
  | init p r a =>
    by_cases hu : s.mode = .uninit <;> cases p <;> simp [exec, execInit, nextState, hu]
  | send v =>
    by_cases hr : s.mode = .run <;> by_cases hb : s.tx.busy <;>
      simp [exec, execSend, sendByte, nextState, hr, hb, loadFrame_eq]
  | statusRead | cmdRead | cmdClear =>
    by_cases hr : s.mode = .run <;>
      simp [exec, execStatusRead, execCmdRead, execCmdClear, clearCmd, nextState, hr]
  | tick r a o => by_cases hr : s.mode = .run <;> simp [exec, execTick, nextState, hr]
  | scheduleNext | reschedule | disable | rxEdge | auxEdge | writeLine | configureEdgeInterrupt =>
    simp [exec, execScheduleNext, execReschedule, execDisable, execRxEdge, execAuxEdge, execWriteLine,
      execConfigureEdgeInterrupt, injected_eq, nextState, scheduleNext, reschedule, rxEdge_eq, auxEdge_eq, emitWake_eq,
      writeLine]
  | fire c =>
    cases c with
    | tx => rw [exec, execFire, injected_eq, fire_tx_eq, nextState]
    | rx => simp [exec, execFire, injected_eq, nextState, fire, rxStep_eq_rxStepped]
  | txStep | rxStep => simp [exec, execTxStep, execRxStep, injected_eq, nextState, txStep_eq, rxStep_eq_rxStepped]
  | otherIrq | clearInterruptFlags =>
    simp [exec, execOtherIrq, execClearInterruptFlags, injected_eq, nextState, unlessFatal]
  | readLine | getCalibratedTrim => simp [exec, execReadLine, execGetCalibratedTrim, nextState]
  | hostWait =>
    by_cases hr : s.mode = .run <;> by_cases hw : s.host.mode = .waiting ∧ s.host.woken = true <;>
      simp [exec, execHostWait, nextState, hr, hw]
  | hostDispatch =>
    by_cases h : s.mode = .run ∧ s.host.mode = .dispatching
    · simpa [exec, nextState, h] using execHostDispatch_eq s h
    · simp [exec, execHostDispatch, nextState, h]

/-- The inversion of `exec`: a next state is `nextState`, and the instruction is no pattern row. -/
theorem exec_next (i : Instr) (s t : State) (h : exec i s = .next t) : isPattern i = false ∧ t = nextState i s := by
  cases hp : isPattern i with
  | false => exact ⟨rfl, by simpa [exec_eq_nextState i s hp] using h.symm⟩
  | true => cases i <;> simp [isPattern] at hp <;> simp [exec, execFrame, execTxsrPattern] at h

end Sys2Proof.Machine
end

