-- ==== Sys2Proof/Laws/Time.lean ====
section
/-! SUPPORT. What a valid configuration gives, and how far ahead of the counter a compare value lies (10_state.md R39
item 8, 40_bit_clock.md R123, R128). -/

namespace Sys2Proof.Machine

/-- The bounds on the bit time (00_scope.md R8). -/
theorem valid_bitTime (c : Config) (h : c.valid = true) : 2 ≤ c.bitTime ∧ c.bitTime < c.modulus := by
  simp only [Config.valid, Bool.and_eq_true, decide_eq_true_eq] at h
  exact ⟨h.1.1.1.1.1.1.2, h.1.1.1.1.1.2⟩

/-- The bounds on the offset of the first transmit event (40_bit_clock.md R123). -/
theorem valid_txFirstOffset (c : Config) (h : c.valid = true) : 1 ≤ c.txFirstOffset ∧ c.txFirstOffset < c.modulus := by
  simp only [Config.valid, Bool.and_eq_true, decide_eq_true_eq] at h
  exact ⟨h.1.1.1.1.2, h.1.1.1.2⟩

/-- `1 ≤ HALF_BIT < BIT_TIME` (00_scope.md R7). -/
theorem valid_halfBit (c : Config) (h : c.valid = true) : 1 ≤ c.halfBit ∧ c.halfBit < c.bitTime := by
  have := valid_bitTime c h
  unfold Config.halfBit
  omega

/-- A compare value set `k` ahead of the counter lies `k` ahead. -/
theorem ticksAhead_counterAdd (c : Config) (cnt k : Nat) (hc : cnt < c.modulus) (hk : k < c.modulus) :
    ticksAhead c (counterAdd c cnt k) cnt = k := by
  unfold ticksAhead counterAdd
  by_cases h : cnt + k < c.modulus
  · rw [Nat.mod_eq_of_lt h, show cnt + k + c.modulus - cnt = k + c.modulus by omega, Nat.add_mod_right,
      Nat.mod_eq_of_lt hk]
  · have e : (cnt + k) % c.modulus = cnt + k - c.modulus := by
      rw [Nat.mod_eq_sub_mod (by omega), Nat.mod_eq_of_lt (by omega)]
    rw [e, show cnt + k - c.modulus + c.modulus - cnt = k by omega, Nat.mod_eq_of_lt hk]

/-- The distance to a compare value in the future, without the modulus. -/
theorem ticksAhead_eq (c : Config) (cmp cnt : Nat) (hm : cmp < c.modulus) (hc : cnt < c.modulus) :
    ticksAhead c cmp cnt = if cnt ≤ cmp then cmp - cnt else cmp + c.modulus - cnt := by
  unfold ticksAhead
  split
  · rw [show cmp + c.modulus - cnt = cmp - cnt + c.modulus by omega, Nat.add_mod_right, Nat.mod_eq_of_lt (by omega)]
  · exact Nat.mod_eq_of_lt (by omega)

/-- One tick brings an armed compare value one tick nearer, and matches it exactly when it was one ahead. -/
theorem ticksAhead_tick (c : Config) (cmp cnt : Nat) (hm : cmp < c.modulus) (hc : cnt < c.modulus)
    (h : 1 ≤ ticksAhead c cmp cnt) :
    ticksAhead c cmp (counterAdd c cnt 1) = ticksAhead c cmp cnt - 1 ∧
      (counterAdd c cnt 1 = cmp ↔ ticksAhead c cmp cnt = 1) := by
  have e : counterAdd c cnt 1 = if cnt + 1 = c.modulus then 0 else cnt + 1 := by
    unfold counterAdd
    split
    · rename_i h; rw [h, Nat.mod_self]
    · exact Nat.mod_eq_of_lt (by omega)
  rw [ticksAhead_eq c cmp cnt hm hc] at *
  rw [ticksAhead_eq c cmp _ hm (counterAdd_lt c cnt 1), e]
  split at h <;> split <;> (repeat' split) <;> omega

end Sys2Proof.Machine
end

