-- ==== Sys2Proof/Tests/Slice0.lean ====
section
/-! SUPPORT. Tests against the spec's own encodings (30_encoding.md R101, R102, opcode_table.json) and vectors
(95_test_vectors.md; the id stands beside each test), the refusals of WellFormed and Decode, and for every obligation with
hypotheses a witness that meets them. -/

namespace Sys2Proof.Tests

open Sys2Proof Sys2Proof.Machine

/-! ### WellFormed refuses ill-formed terms -/

theorem test_wellFormed_offset_too_wide : (Instr.scheduleNext .tx 65536).wellFormed 16 = false := by decide
theorem test_wellFormed_offset_largest : (Instr.scheduleNext .tx 65535).wellFormed 16 = true := by decide
theorem test_wellFormed_period_too_wide : (Instr.reschedule .rx 65536).wellFormed 16 = false := by decide
theorem test_wellFormed_wider_counter : (Instr.reschedule .rx 65536).wellFormed 17 = true := by decide
theorem test_wellFormed_field_of_24_bits : (Instr.scheduleNext .rx 0).wellFormed 24 = false := by decide
theorem test_wellFormed_field_of_24_bits_period : (Instr.reschedule .tx 1).wellFormed 24 = false := by decide

/-! ### Decoding: every row's word, written out from its encoding string in opcode_table.json -/

theorem test_decode_lifecycle :
    decodeTableWord 32 0b00000000000000000000000000000000 = some .por ∧
    decodeTableWord 32 0b00000001000000000000000000000101 = some (.init true false true) ∧
    decodeTableWord 32 0b00000001000000000000000000000010 = some (.init false true false) := by decide

theorem test_decode_transmit :
    decodeTableWord 32 0b00000010000000000000000010100101 = some (.send 0xA5#8) ∧
    decodeTableWord 32 0b00000011000000000000000000000000 = some .statusRead ∧
    decodeTableWord 32 0b00110000000000000000000000000000 = some .txStep := by decide

theorem test_decode_mailbox_and_host :
    decodeTableWord 32 0b00000100000000000000000000000000 = some .cmdRead ∧
    decodeTableWord 32 0b00000101000000000000000000000000 = some .cmdClear ∧
    decodeTableWord 32 0b01010000000000000000000000000000 = some .hostWait ∧
    decodeTableWord 32 0b01010001000000000000000000000000 = some .hostDispatch := by decide

theorem test_decode_bit_clock :
    decodeTableWord 32 0b00010000000000000000000000000001 = some (.tick true false false) ∧
    decodeTableWord 32 0b00010000000000000000000000000110 = some (.tick false true true) ∧
    decodeTableWord 32 0b00100000000000011000000000000010 = some (.scheduleNext .rx 0x8002) ∧
    decodeTableWord 32 0b00100001000000000000000001101000 = some (.reschedule .tx 104) ∧
    decodeTableWord 32 0b00100010000000010000000000000000 = some (.disable .rx) ∧
    decodeTableWord 32 0b00100010000000000000000000000000 = some (.disable .tx) ∧
    decodeTableWord 32 0b00100011000000010000000000000000 = some (.fire .rx) := by decide

theorem test_decode_receive :
    decodeTableWord 32 0b00110001000000000000000000000001 = some (.rxStep true) ∧
    decodeTableWord 32 0b00110010000000000000000000000000 = some .rxEdge ∧
    decodeTableWord 32 0b00110011000000000000000000000000 = some .auxEdge ∧
    decodeTableWord 32 0b00110100000000000000000000000000 = some .otherIrq := by decide

theorem test_decode_collaborators :
    decodeTableWord 32 0b01000000000000000000000000000000 = some .readLine ∧
    decodeTableWord 32 0b01000001000000000000000000000001 = some (.writeLine true) ∧
    decodeTableWord 32 0b01000010000000000000000000000110 = some (.configureEdgeInterrupt .falling true true) ∧
    decodeTableWord 32 0b01000010000000000000000000000011 = some (.configureEdgeInterrupt .rising true false) ∧
    decodeTableWord 32 0b01000011000000000000000000000000 = some .clearInterruptFlags ∧
    decodeTableWord 32 0b01000100000000000000000000000000 = some .getCalibratedTrim := by decide

/-- `'r'` = 0x72: cells 0 0 1 0 0 1 1 1 0 1 (TX7) and pattern 0x2E4. -/
theorem test_decode_patterns :
    decodeTableWord 10 0b0010011101 = some (.frame 0x72#8) ∧
    decodeTableWord 10 0x2E4 = some (.txsrPattern 0x72#8) := by decide

/-- A wider counter: the channel bit stands above its field (R101). -/
theorem test_decode_wide_counter :
    decode 20 (.stimulus 0x20180001#32) = some (.scheduleNext .rx 0x80001) := by decide

/-- Unused operand bits are ignored (R101). -/
theorem test_decode_ignores_unused_bits :
    decode 16 (.stimulus 0x03FFFFFF#32) = some .statusRead ∧
    decode 16 (.stimulus 0x02ABCD55#32) = some (.send 0x55#8) := by decide

/-- An unknown tag names no operation; a pattern that is neither frame nor register pattern neither. -/
theorem test_decode_refuses :
    decode 16 (.stimulus 0x06000000#32) = none ∧ decode 16 (.stimulus 0xFF000000#32) = none ∧
    decode 16 (.pattern 0x2E5#16) = none ∧ decode 16 (.pattern 0x6E4#16) = none ∧
    decode 24 (.stimulus 0x20000001#32) = none := by decide

/-- TX1, TX2, TX7 and TX8: the pattern of a byte; TX7: its cells in time order. -/
theorem test_patterns :
    framePattern 0x00#8 = 0x200#10 ∧ framePattern 0xFF#8 = 0x3FE#10 ∧ framePattern 0x72#8 = 0x2E4#10 ∧
    framePattern 0xA5#8 = 0x34A#10 ∧ frameCells 0x72#8 = 0b0010011101#10 := by decide

/-! ### Small states -/

/-- An idle block in `RUN`, both lines at mark, counter 0xFFF8 (P1 after `INIT`). -/
def idle : State :=
  { State.reset with
    mode := .run, cnt := 0xFFF8
    tx := { cmp := 0, arm := false, sr := 0, cnt := 0, busy := false, txd := true }
    rx := { cmp := 0, arm := false, sr := 0, cnt := 0, act := false, ie := true, prev := true }
    auxIe := true, auxPrev := true, cmd := 0xE0#8 }

/-- The same with counter width `w`, bit time `b` and counter `n`. -/
def idleWith (w b n : Nat) : State :=
  { idle with cfg := { Config.example95 with cntW := w, bitTime := b, txFirstOffset := b }, cnt := n }

/-- The block after a missing trim. -/
def fatal : State := { State.reset with mode := .fatal }

/-- Both channels about to fire, mid-frame (BC10). -/
def bothFire : State :=
  { idle with
    cnt := 0x01FF
    tx := { cmp := 0x0200, arm := true, sr := 0x005#10, cnt := 3#4, busy := true, txd := false }
    rx := { cmp := 0x0200, arm := true, sr := 0x240#10, cnt := 4#4, act := true, ie := false, prev := true } }

/-- One tick before the last sample of `'r'` (P2 after tick 41). -/
def lastSample : State :=
  { idle with
    cnt := 0x0039
    rx := { cmp := 0x003A, arm := true, sr := 0x1C8#10, cnt := 1#4, act := true, ie := false, prev := true } }

/-- A host that has read the command `c` and sent `n` bytes of its response. -/
def dispatching (c : Byte) (n : Nat) : State :=
  { idle with cmd := c, host := { mode := .dispatching, led := false, command := some c, index := n, woken := false, heldWake := false } }

/-- A table with a further row that stays awake. -/
def awakeConfig : Config :=
  { Config.example95 with
    cmdTable := [{ code := 0x41#8, action := .idle, response := [0x0D#8, 0x0A#8], stayAwake := true }] }

/-- The next state of an answer, or `s`. -/
def nextOf (a : Answer) (s : State) : State :=
  match a with
  | .next t => t
  | .fault _ => s
  | .refused _ => s

/-- Whether an answer is a next state. -/
def isNext (a : Answer) : Bool :=
  match a with
  | .next _ => true
  | .fault _ => false
  | .refused _ => false

/-- The state after `i`. -/
def after (i : Instr) (s : State) : State := nextOf (exec i s) s

theorem exec_after {i : Instr} {s : State} (h : isNext (exec i s) = true) : exec i s = .next (after i s) := by
  revert h
  unfold after
  cases exec i s <;> simp [isNext, nextOf]

/-! ### Life cycle (RS) -/

/-- RS2. -/
theorem test_init_some :
    let t := after (.init true true true) State.reset
    t.mode = .run ∧ t.tx = { cmp := 0, arm := false, sr := 0, cnt := 0, busy := false, txd := true } ∧
      t.rx.ie = true ∧ t.auxIe = true ∧ t.rx.prev = true ∧ t.cmd = 0xE0#8 ∧ t.faultInd = false := by decide

/-- R40, "after `INIT(none)`": a draw becomes the register, `CNT` = 0xFFF8 and `CMD` = 0x55. -/
theorem test_init_none_draws :
    let t := after (.init false true true) { State.reset with draws := [0xFFF8, 0, 0, 0, 0, 0, 0, 0, 0, 0, 0, 0, 0x55, 0] }
    t.cnt = 0xFFF8 ∧ t.cmd = 0x55#8 ∧ t.tx.arm = false := by decide

/-- RS3 and RS5. -/
theorem test_init_none :
    let t := after (.init false true true) State.reset
    t.mode = .fatal ∧ t.faultInd = true ∧ (after (.init true true true) t).mode = .fatal := by decide

/-- RS1. -/
theorem test_por : (after .por bothFire).mode = .uninit ∧ (after .por bothFire).tx.arm = false ∧
    (after .por bothFire).rx.arm = false ∧ (after .por bothFire).rx.ie = false := ⟨rfl, rfl, rfl, rfl⟩

/-- A draw becomes the register: `CNT` = 0xFFF8 (P1). -/
theorem test_por_draws : (after .por { idle with draws := 0xFFF8 :: List.replicate 18 0 }).cnt = 0xFFF8 := by decide

/-- TX14, MB7: refused outside `RUN`. -/
theorem test_refused_outside_run :
    (after (.send 0x55#8) State.reset).tx = State.reset.tx ∧ (after .cmdClear State.reset).cmd = State.reset.cmd := by decide

/-! ### Bit Clock (BC) -/

/-- BC1. -/
theorem test_scheduleNext_tx : (after (.scheduleNext .tx 4) idle).tx.cmp = 0xFFFC ∧
    (after (.scheduleNext .tx 4) idle).tx.arm = true := by decide
/-- BC2: the sum wraps. -/
theorem test_scheduleNext_rx_wraps :
    (after (.scheduleNext .rx 52) { idle with cnt := 0xFFE0 }).rx.cmp = 0x0014 := by decide
/-- BC3. -/
theorem test_reschedule_tx_wraps : (after (.reschedule .tx 4) { idle with tx.cmp := 0xFFFC }).tx.cmp = 0 := by decide
/-- BC4. -/
theorem test_reschedule_rx : (after (.reschedule .rx 104) { idle with rx.cmp := 0xFFC0 }).rx.cmp = 0x0028 := by decide
/-- BC5. -/
theorem test_disable_rx : (after (.disable .rx) bothFire).rx = { bothFire.rx with arm := false } ∧
    (after (.disable .rx) bothFire).tx = bothFire.tx := by decide
/-- BC6: the counter wraps and nothing else changes. -/
theorem test_tick_wraps : after (.tick true true false) { idle with cnt := 0xFFFF } = { idle with cnt := 0 } := by decide
/-- BC8: a disarmed channel does not fire. -/
theorem test_tick_disarmed : (after (.tick true true false) { idle with cnt := 0x00FF, tx.cmp := 0x0100 }).tx.cmp = 0x0100 := by
  decide
/-- BC10: both channels fire. -/
theorem test_tick_both_fire :
    let t := after (.tick true true false) bothFire
    t.tx = { cmp := 0x0204, arm := true, sr := 0x002#10, cnt := 2#4, busy := true, txd := true } ∧
      t.rx.sr = 0x320#10 ∧ t.rx.cnt = 3#4 ∧ t.rx.cmp = 0x0204 ∧ t.rx.arm = true ∧ t.wake = false := by decide
/-- BC10, the transmit half, as an injected `FIRE`. -/
theorem test_fire_tx : (after (.fire .tx) bothFire).tx.txd = true ∧ (after (.fire .tx) bothFire).tx.cmp = 0x0204 := by decide
/-- BC10, the receive half, with the sample supplied as a draw. -/
theorem test_fire_rx : (after (.fire .rx) { bothFire with draws := [1] }).rx.sr = 0x320#10 := by decide

/-! ### Transmit Engine (TX) -/

/-- P1 and the example of R140. -/
theorem test_send : (after (.send 0x55#8) idle).tx =
    { cmp := 0xFFFC, arm := true, sr := 0x2AA#10, cnt := 10#4, busy := true, txd := true } ∧
    (after (.send 0x55#8) idle).result = .accepted true := by decide
/-- TX11: a busy slot is left alone. -/
theorem test_send_busy : (after (.send 0x42#8) bothFire).tx = bothFire.tx ∧
    (after (.send 0x42#8) bothFire).result = .accepted false := by decide
/-- The example of R141. -/
theorem test_txStep : (after .txStep (after (.send 0x55#8) idle)).tx =
    { cmp := 0, arm := true, sr := 0x155#10, cnt := 9#4, busy := true, txd := false } := by decide
/-- P1, tick 44: the eleventh event frees the slot. -/
theorem test_txStep_completes :
    (after .txStep { idle with tx := { cmp := 0x24, arm := true, sr := 0, cnt := 0, busy := true, txd := true } }).tx =
      { cmp := 0x28, arm := false, sr := 0, cnt := 0, busy := false, txd := true } := by decide
/-- TX13. -/
theorem test_statusRead : (after .statusRead bothFire).result = .txBusy true ∧
    (after .statusRead idle).result = .txBusy false := by decide

/-! ### Edge Detector and Receive Engine (ED, RX) -/

/-- ED1. -/
theorem test_rx_edge_in_tick :
    let t := after (.tick false true false) { idle with cnt := 0x0500 }
    t.rx = { cmp := 0x0503, arm := true, sr := 0, cnt := 10#4, act := true, ie := false, prev := false } ∧
      t.wake = false ∧ t.cmd = 0xE0#8 := by decide
/-- ED3: no transition, no event. -/
theorem test_no_edge_when_low : (after (.tick false true false) { idle with rx.prev := false }).rx.act = false := by decide
/-- ED5. -/
theorem test_aux_edge_in_tick :
    let t := after (.tick true false false) idle
    t.cmd = 0xE1#8 ∧ t.wake = true ∧ t.auxPrev = false ∧ t.auxIe = true ∧ t.rx = idle.rx := by decide
/-- ED6. -/
theorem test_no_aux_edge_when_low : (after (.tick true false false) { idle with auxPrev := false }).wake = false := by decide
/-- BC13. -/
theorem test_other_source : after (.tick true true true) { idle with cnt := 0x0041 } = { idle with cnt := 0x0042 } := by decide
/-- The example of R161. -/
theorem test_rxEdge : (after .rxEdge { idle with cnt := 0x0014 }).rx.cmp = 0x0016 := by decide
/-- R162. -/
theorem test_auxEdge : (after .auxEdge idle).cmd = 0xE1#8 ∧ (after .auxEdge idle).wake = true := by decide
/-- R163. -/
theorem test_otherIrq : after .otherIrq bothFire = bothFire := by decide
/-- The example of R180 (RX1, RX5: the byte does not depend on the stop sample). -/
theorem test_rxStep_completes :
    (after (.rxStep true) lastSample).rx =
      { cmp := 0x003E, arm := false, sr := 0x2E4#10, cnt := 0, act := false, ie := true, prev := true } ∧
    (after (.rxStep true) lastSample).cmd = 0x72#8 ∧ (after (.rxStep false) lastSample).cmd = 0x72#8 := by decide
/-- R180 (f): the injection is refused. -/
theorem test_rxStep_refused : after (.rxStep true) idle = idle := by decide
/-- RX8: a completion and a new start edge in one tick. -/
theorem test_completion_and_edge :
    let t := after (.tick false true false) lastSample
    t.cmd = 0x72#8 ∧ t.wake = true ∧
      t.rx = { cmp := 0x003C, arm := true, sr := 0, cnt := 10#4, act := true, ie := false, prev := false } := by decide
/-- P4: the auxiliary edge wins `CMD`. -/
theorem test_completion_and_aux : (after (.tick true false false) lastSample).cmd = 0xE1#8 ∧
    (after (.tick true false false) lastSample).rx.sr = 0x2E4#10 := by decide

/-! ### Collaborators -/

/-- R221, P2: the level is held, nothing else changes. -/
theorem test_writeLine : after (.writeLine false) idle = { idle with tx.txd := false } := by decide
/-- U6: refused. -/
theorem test_configure_rising : after (.configureEdgeInterrupt .rising true true) { idle with rx.ie := false } =
    { idle with rx.ie := false } := by decide
theorem test_configure_falling : (after (.configureEdgeInterrupt .falling true true) State.reset).auxIe = true := by decide
theorem test_clearInterruptFlags : after .clearInterruptFlags bothFire = bothFire := by decide
/-- A supplied draw is the answer. -/
theorem test_readLine : (after .readLine { idle with draws := [1] }).result = .level true := by decide
theorem test_getCalibratedTrim : (after .getCalibratedTrim { idle with draws := [0, 7] }).result = .trim none ∧
    (after .getCalibratedTrim { idle with draws := [1, 7] }).result = .trim (some 7) := by decide

/-! ### Mailbox and host (MB, H) -/

/-- MB1. -/
theorem test_cmdRead : (after .cmdRead { idle with cmd := 0x72#8 }).result = .cmd 0x72#8 ∧
    (after .cmdRead { idle with cmd := 0x72#8 }).cmd = 0x72#8 := by decide
/-- MB2. -/
theorem test_cmdClear : (after .cmdClear { idle with cmd := 0x72#8 }).cmd = 0xE0#8 := by decide
/-- R205: the strings are the ASCII codes, 18 bytes each. -/
theorem test_responses :
    respToggled.map BitVec.toNat = "Toggled Red LED.\r\n".toList.map Char.toNat ∧
    respButton.map BitVec.toNat = "Button Pressed!!\r\n".toList.map Char.toNat ∧
    respToggled.length = 18 ∧ respButton.length = 18 := by decide
/-- H1 at `23+`: the pulse of the tick wakes the waiting host, once. -/
theorem test_hostWait :
    let t := after .hostWait (after (.tick true false false) idle)
    t.host.mode = .dispatching ∧ t.host.woken = false ∧ (after .hostWait idle).host.mode = .waiting := by decide
/-- U23: a pulse that comes while the host is dispatching does not bring it back, not even before the next tick. -/
theorem test_pulse_while_dispatching_is_lost :
    let t := after .hostDispatch (after (.tick true false false) (dispatching 0x72#8 18))
    t.wake = true ∧ t.cmd = 0xE0#8 ∧ (after .hostWait t).host.mode = .waiting := by decide
/-- H1 at `23+`: the command is read, the LED toggled, the first byte accepted. -/
theorem test_hostDispatch_read :
    let t := after .hostDispatch { dispatching 0x72#8 0 with host.command := none }
    t.host.led = true ∧ (after .hostDispatch t).tx.sr = framePattern 0x54#8 := by decide
/-- H1 at `397+`: the command is cleared, the host waits. -/
theorem test_hostDispatch_clear :
    (after .hostDispatch (dispatching 0x72#8 18)).cmd = 0xE0#8 ∧
    (after .hostDispatch (dispatching 0x72#8 18)).host.mode = .waiting := by decide

/-- R96, U15: a `CMD_AUX` that equals `'r'` is a valid choice, and has the sentinel's meaning. -/
theorem test_sentinel_equal_to_command :
    let c := { Config.example95 with cmdAux := 0x72#8 }
    c.valid = true ∧ (lookup c 0x72#8).response = respButton ∧ (lookup c 0x72#8).action = .idle := by decide

/-! ### Pseudo-operations -/

/-- R106: the wait of one tick that frees the slot, then the `SEND` is accepted; the second wait is left. -/
theorem test_sendBlocking :
    let s := { idle with tx := { cmp := 0xFFF9, arm := true, sr := 0, cnt := 0, busy := true, txd := true } }
    let w : Wait := { first := { rxd := true, aux := true, other := false }, more := [] }
    (sendBlocking 0x55#8 [w, w] s).map (fun r => (r.1.tx.sr, r.2)) = some (0x2AA#10, [w]) := by decide
/-- R106: without a wait that frees the slot it has not ended, and neither has the string. -/
theorem test_sendBlocking_unfinished : (sendBlocking 0x42#8 [] bothFire).isNone = true ∧
    (sendString [0x42#8, 0x43#8] [] idle).isNone = true := by decide

/-! ### The step -/

/-- `SEND 0x55` (0x02000055), put in the script, is what the next step runs. -/
theorem test_step_runs_the_word : nextOf (step (idle.withFetchWord 32 0x02000055)) idle = after (.send 0x55#8) idle := by decide
/-- `INIT some rxd=1 aux=1` as the first operation after reset. -/
theorem test_step_after_reset :
    (nextOf (step (State.reset.withFetchWord 32 0x01000007)) State.reset).mode = .run := by decide
theorem test_step_empty_script : step State.reset = .refused .emptyScript := by rfl
theorem test_step_unknown_word :
    step (State.reset.withFetchWord 32 0x06000000) = .refused (.unknownWord (.stimulus 0x06000000#32)) := by rfl
/-- U20: `BIT_TIME = 1`, `CMD_IDLE = CMD_AUX`, `BIT_TIME ≥ 2^CNT_W` are refused. -/
theorem test_invalid_config :
    ({ Config.example95 with bitTime := 1 } : Config).valid = false ∧
    ({ Config.example95 with cmdIdle := 0xE1#8 } : Config).valid = false ∧
    ({ Config.example95 with cntW := 2 } : Config).valid = false ∧
    ({ Config.example95 with txFirstOffset := 0 } : Config).valid = false ∧
    ({ Config.example95 with cntW := 3 } : Config).valid = true := by decide

/-! ### Witnesses: each meets the hypotheses of the obligation it is named after, clause by clause -/

/-- An idle block meets the invariant. -/
theorem idle_inv : Inv idle where
  config := by decide
  counters := ⟨by decide, by decide, by decide⟩
  transmit := fun _ => ⟨by decide, by decide, by decide, fun h => absurd h (by decide), by decide⟩
  receive := fun _ => ⟨by decide, by decide, by decide, by decide, by decide⟩
  aux := by decide
  unarmed := fun h => absurd rfl h

/-- A block one event before the end of a frame, `TXCNT = 0` and the stop cell on the line, meets it too. -/
theorem busy_inv : Inv { idle with tx := { cmp := 0xFFF9, arm := true, sr := 0, cnt := 0, busy := true, txd := true } } where
  config := by decide
  counters := ⟨by decide, by decide, by decide⟩
  transmit := fun _ => ⟨by decide, by decide, by decide, fun _ => ⟨0x55#8, by decide, by decide⟩, by decide⟩
  receive := fun _ => ⟨by decide, by decide, by decide, by decide, by decide⟩
  aux := by decide
  unarmed := fun h => absurd rfl h

theorem idle_hostInv : HostInv idle where
  waiting := by decide
  woken := by decide
  inside := by intro _ v h; cases h

/-- The end of the response is inside the loop. -/
theorem dispatching_hostInv : HostInv (dispatching 0x72#8 18) where
  waiting := by decide
  woken := by decide
  inside := by
    intro _ v h
    injection h with h
    subst h
    decide

/-- Not in `RUN`: `UNINIT` and `FATAL`. -/
theorem witness_modes : idle.mode = .run ∧ State.reset.mode = .uninit ∧ fatal.mode = .fatal ∧
    State.reset.mode ≠ .run ∧ fatal.mode ≠ .run ∧ idle.mode ≠ .uninit ∧ fatal.mode ≠ .uninit ∧
    idle.mode ≠ .fatal ∧ State.reset.mode ≠ .fatal := by decide

theorem witness_PorUnarmsAndLeavesTheRestUnspecified :
    idle.cnt < State.reset.cfg.modulus ∧ idle.tx.cmp < State.reset.cfg.modulus ∧ idle.rx.cmp < State.reset.cfg.modulus := by
  decide

theorem witness_InitStartsTheBlockOnce : State.reset.mode = .uninit ∧ idle.mode ≠ .uninit ∧ fatal.mode ≠ .uninit := by decide

theorem witness_HostEntersItsLoopAtInit : State.reset.mode = .uninit := by decide

theorem witness_FatalTrapEntryAndRefusals :
    State.reset.mode = .uninit ∧ (idle.cnt < State.reset.cfg.modulus ∧ idle.tx.cmp < State.reset.cfg.modulus ∧
      idle.rx.cmp < State.reset.cfg.modulus) ∧
    fatal.mode = .fatal ∧ Instr.send 0x41#8 ≠ .por ∧ isPattern (.send 0x41#8) = false := by decide

theorem witness_ModeChangesOnlyByPorAndInit :
    (exec (.init true true true) State.reset = .next (after (.init true true true) State.reset) ∧
      (after (.init true true true) State.reset).mode ≠ State.reset.mode) ∧
    (exec (.init false true true) State.reset = .next (after (.init false true true) State.reset) ∧
      (after (.init false true true) State.reset).mode ≠ State.reset.mode) ∧
    exec .por idle = .next (after .por idle) ∧ (after .por idle).mode ≠ idle.mode :=
  ⟨⟨exec_after rfl, by decide⟩, ⟨exec_after rfl, nofun⟩, exec_after rfl, nofun⟩

theorem witness_TickOutsideRunIsRefused : State.reset.mode ≠ .run ∧ fatal.mode ≠ .run := by decide

theorem witness_HostOperationsOutsideRunAreRefused : State.reset.mode ≠ .run ∧ fatal.mode ≠ .run := by decide

theorem witness_OnlyTickAdvancesTheCounter : idle.mode = .run ∧ ({ idle with cnt := 0xFFFF } : State).mode = .run ∧
    exec .txStep idle = .next (after .txStep idle) ∧ Instr.txStep ≠ .por ∧
      ¬(idle.mode = .uninit ∧ ∃ r a, Instr.txStep = .init false r a) ∧ ∀ r a o, Instr.txStep ≠ .tick r a o :=
  ⟨rfl, rfl, exec_after rfl, nofun, nofun, nofun⟩

theorem witness_TickCompletesAndKeepsTheSetting : idle.mode = .run := by decide

/-- A fire with cells left, a fire with none left, no match, a match of a disarmed channel. -/
theorem witness_TickServesTheTransmitChannel :
    (bothFire.mode = .run ∧ bothFire.tx.arm = true ∧ (bothFire.cnt + 1) % bothFire.cfg.modulus = bothFire.tx.cmp ∧
      bothFire.tx.cnt ≠ 0#4) ∧
    (let s := { bothFire with tx.cnt := 0#4 }
     s.mode = .run ∧ s.tx.arm = true ∧ (s.cnt + 1) % s.cfg.modulus = s.tx.cmp ∧ s.tx.cnt = 0#4) ∧
    (let s := { bothFire with tx.cmp := 0x0201 }
     s.mode = .run ∧ s.tx.arm = true ∧ (s.cnt + 1) % s.cfg.modulus ≠ s.tx.cmp) ∧
    idle.mode = .run ∧ idle.tx.arm = false := by decide

theorem witness_TickTakesASample :
    (bothFire.mode = .run ∧ bothFire.rx.arm = true ∧ (bothFire.cnt + 1) % bothFire.cfg.modulus = bothFire.rx.cmp ∧
      2 ≤ bothFire.rx.cnt.toNat ∧ bothFire.rx.ie = false) ∧
    (let s := { bothFire with rx.cnt := 2#4 }
     s.mode = .run ∧ s.rx.arm = true ∧ (s.cnt + 1) % s.cfg.modulus = s.rx.cmp ∧ 2 ≤ s.rx.cnt.toNat ∧ s.rx.ie = false) := by
  decide

/-- Alone, with an auxiliary edge (`a = 0`) and with a start edge (`r = 0`). -/
theorem witness_TickCompletesAReception :
    lastSample.mode = .run ∧ lastSample.rx.arm = true ∧
      (lastSample.cnt + 1) % lastSample.cfg.modulus = lastSample.rx.cmp ∧ lastSample.rx.cnt = 1#4 ∧
      lastSample.auxIe = true ∧ lastSample.auxPrev = true ∧ lastSample.rx.prev = true := by decide

/-- An accepted edge, a line that stays low, a detection that is off, the tick before a fire. -/
theorem witness_TickStartsAFrameOnlyOnAnAcceptedEdge :
    (idle.mode = .run ∧ ¬(idle.rx.arm = true ∧ (idle.cnt + 1) % idle.cfg.modulus = idle.rx.cmp) ∧ idle.rx.ie = true ∧
      idle.rx.prev = true) ∧
    (let s := { idle with rx.prev := false }
     s.mode = .run ∧ ¬(s.rx.arm = true ∧ (s.cnt + 1) % s.cfg.modulus = s.rx.cmp) ∧ s.rx.prev = false) ∧
    (let s := { lastSample with cnt := 0x0038 }
     s.mode = .run ∧ ¬(s.rx.arm = true ∧ (s.cnt + 1) % s.cfg.modulus = s.rx.cmp) ∧ s.rx.ie = false) := by decide

/-- A completion, an auxiliary edge, neither. -/
theorem witness_WakeExactlyOnCompletionOrAuxEdge :
    lastSample.mode = .run ∧ (after (.tick true true false) lastSample).wake = true ∧
    idle.mode = .run ∧ (after (.tick true false false) idle).wake = true ∧
    idle.auxIe = true ∧ idle.auxPrev = true ∧ (after (.tick true true false) idle).wake = false := by decide

theorem witness_ScheduleNextArmsFromTheCounter : idle.mode = .run ∧ bothFire.mode = .run := by decide
theorem witness_RescheduleArmsFromTheCompareValue : idle.mode = .run ∧ bothFire.mode = .run := by decide
theorem witness_DisableClearsOnlyTheArmBit : idle.mode = .run ∧ bothFire.mode = .run := by decide
theorem witness_FireRunsTheStepFunction : idle.mode = .run ∧ bothFire.mode = .run := by decide

/-- The smallest and the largest offset. -/
theorem witness_ScheduledEventIsServedAtItsOffset :
    idle.mode = .run ∧ CountersInRange idle ∧
    (1 < idle.cfg.modulus ∧ exec (.scheduleNext .tx 1) idle = .next (after (.scheduleNext .tx 1) idle)) ∧
    (0xFFFF < idle.cfg.modulus ∧ exec (.scheduleNext .tx 0xFFFF) idle = .next (after (.scheduleNext .tx 0xFFFF) idle)) :=
  ⟨rfl, idle_inv.counters, ⟨by decide, exec_after rfl⟩, by decide, exec_after rfl⟩

theorem witness_InjectedStepsRunInUninitAsInRun : isInternal .txStep = true ∧ isInternal (.fire .rx) = true ∧
    State.reset.mode = .uninit := by decide

theorem witness_SendLoadsAFreeSlotOnly : (idle.mode = .run ∧ idle.tx.busy = false) ∧
    (bothFire.mode = .run ∧ bothFire.tx.busy = true) ∧ State.reset.mode ≠ .run := by decide

theorem witness_TxStepDrivesACellOrFreesTheSlot : (bothFire.mode = .run ∧ bothFire.tx.cnt ≠ 0#4) ∧
    (({ bothFire with tx.cnt := 1#4 } : State).mode = .run ∧ ({ bothFire with tx.cnt := 1#4 } : State).tx.cnt ≠ 0#4) ∧
    idle.mode = .run ∧ idle.tx.cnt = 0#4 := by decide

theorem witness_StatusReadReturnsBusy : idle.mode = .run ∧ bothFire.mode = .run ∧ State.reset.mode ≠ .run := by decide

/-- With `n` at both ends of the mark, of the first and the last cell, and at the end of the frame (`BIT_TIME = 4`,
`TX_FIRST_OFFSET = 4`). -/
theorem witness_TransmitFrameTimeline :
    idle.cfg.valid = true ∧ CountersInRange idle ∧ idle.mode = .run ∧ idle.tx.busy = false ∧ idle.tx.txd = true ∧
      exec (.send 0x55#8) idle = .next (after (.send 0x55#8) idle) ∧
      (1 ≤ 1 ∧ 1 < idle.cfg.txFirstOffset ∧ 3 < idle.cfg.txFirstOffset) ∧
      (idle.cfg.txFirstOffset + 0 * idle.cfg.bitTime ≤ 4 ∧ 7 < idle.cfg.txFirstOffset + (0 + 1) * idle.cfg.bitTime) ∧
      (idle.cfg.txFirstOffset + 9 * idle.cfg.bitTime ≤ 40 ∧ 43 < idle.cfg.txFirstOffset + (9 + 1) * idle.cfg.bitTime) ∧
      idle.cfg.txFirstOffset + 10 * idle.cfg.bitTime ≤ 44 :=
  ⟨by decide, idle_inv.counters, rfl, rfl, rfl, exec_after rfl, by decide, by decide, by decide, by decide⟩

/-- `RXCNT` at 10, 2, 1 and 0. -/
theorem witness_RxStepSamplesAndCompletes :
    (bothFire.mode = .run ∧ 2 ≤ bothFire.rx.cnt.toNat) ∧
    (({ bothFire with rx.cnt := 2#4 } : State).mode = .run ∧ 2 ≤ ({ bothFire with rx.cnt := 2#4 } : State).rx.cnt.toNat) ∧
    (lastSample.mode = .run ∧ lastSample.rx.cnt = 1#4) ∧
    (let s := { lastSample with host := (dispatching 0x72#8 0).host }
     s.mode = .run ∧ s.rx.cnt = 1#4 ∧ s.host.mode = .dispatching ∧ s.cfg.wakeLatched = false) ∧ idle.rx.cnt = 0#4 := by decide

theorem witness_RxEdgeStartsAFrame : idle.mode = .run := by decide
theorem witness_AuxEdgePostsTheSentinel : idle.mode = .run ∧ (dispatching 0x72#8 0).mode = .run ∧
    (dispatching 0x72#8 0).host.mode = .dispatching ∧ (dispatching 0x72#8 0).cfg.wakeLatched = false := by decide

/-- `n` at both ends of the reception (`HALF_BIT = 2`, `BIT_TIME = 4`: the last tick is the 38th), the first sample's
interval (`j = 0`) and the last one's (`j = 9`), with an aux line and a receive line that stay at mark in the last tick. -/
theorem witness_ReceptionTimeline :
    idle.cfg.valid = true ∧ CountersInRange idle ∧ idle.mode = .run ∧ exec .rxEdge idle = .next (after .rxEdge idle) ∧
      (0 < idle.cfg.halfBit + 9 * idle.cfg.bitTime ∧ 0 < idle.cfg.halfBit + 0 * idle.cfg.bitTime) ∧
      (0 + 1 < idle.cfg.halfBit + 9 * idle.cfg.bitTime ∧ 36 + 1 < idle.cfg.halfBit + 9 * idle.cfg.bitTime) ∧
      (37 < idle.cfg.halfBit + 9 * idle.cfg.bitTime ∧ idle.cfg.halfBit + (9 - 1) * idle.cfg.bitTime ≤ 37) ∧
      37 + 1 = idle.cfg.halfBit + 9 * idle.cfg.bitTime :=
  ⟨by decide, idle_inv.counters, rfl, exec_after rfl, by decide, by decide, by decide, by decide⟩

theorem witness_LoopbackRoundTrip :
    Inv idle ∧ idle.mode = .run ∧ idle.tx.busy = false ∧ idle.rx.act = false ∧ idle.rx.prev = true ∧
      exec (.send 0xA5#8) idle = .next (after (.send 0xA5#8) idle) :=
  ⟨idle_inv, rfl, rfl, rfl, rfl, exec_after rfl⟩

theorem witness_WriteLineDrivesTxd : idle.mode = .run := by decide

theorem witness_ConfigureArmsFallingEdgesOnBothLinesOnly : idle.mode = .run ∧
    ¬(Edge.rising = .falling ∧ true = true ∧ true = true) ∧ ¬(Edge.falling = .falling ∧ true = true ∧ false = true) ∧
    ¬(Edge.falling = .falling ∧ false = true ∧ true = true) := by decide

theorem witness_FreeAnswersChangeNoRegister : ((none : Option TrimValue) = none ∨ ∃ v, (none : Option TrimValue) = some v) ∧
    (some (7 : TrimValue) = none ∨ ∃ v, some (7 : TrimValue) = some v) := ⟨.inl rfl, .inr ⟨7, rfl⟩⟩

theorem witness_CmdReadReturnsCmd : idle.mode = .run ∧ fatal.mode ≠ .run := by decide
theorem witness_CmdClearWritesTheIdleSentinel : idle.mode = .run ∧ State.reset.mode ≠ .run := by decide

/-- A table with a further row, a value outside it, and a `CMD_AUX` that is not `'r'`. -/
theorem witness_LookupFollowsTheCommandTable : awakeConfig.valid = true ∧ Config.example95.valid = true ∧
    awakeConfig.cmdAux ≠ 0x72#8 ∧
    0x42#8 ≠ 0x72#8 ∧ 0x42#8 ≠ awakeConfig.cmdAux ∧ (∀ r ∈ awakeConfig.cmdTable, r.code ≠ 0x42#8) ∧
    awakeConfig.cmdTable ≠ [] := by decide

/-- A woken host, one that dispatches, one that is not woken, and a tick that pulses while the host waits. -/
theorem witness_HostWaitStartsDispatchOnWake :
    (let s := after (.tick true false false) idle
     s.mode = .run ∧ s.host.mode = .waiting ∧ s.host.woken = true) ∧
    (dispatching 0x72#8 0).host.mode = .dispatching ∧ idle.host.woken = false ∧
    idle.mode = .run ∧ exec (.tick true false false) idle = .next (after (.tick true false false) idle) :=
  ⟨by decide, rfl, rfl, rfl, exec_after rfl⟩

theorem witness_HostDispatchReadsAndActs :
    let s := { dispatching 0x72#8 0 with host.command := none }
    s.mode = .run ∧ s.host.mode = .dispatching ∧ s.host.command = none := by decide

/-- The first and the last byte of a response, with a free and with a busy slot. -/
theorem witness_HostDispatchSendsTheNextByte :
    (let s := dispatching 0x72#8 0
     s.mode = .run ∧ s.host.mode = .dispatching ∧ s.host.command = some 0x72#8 ∧
       (lookup s.cfg 0x72#8).response[s.host.index]? = some 0x54#8 ∧ s.tx.busy = false) ∧
    (let s := { dispatching 0x72#8 17 with tx := bothFire.tx }
     s.mode = .run ∧ s.host.mode = .dispatching ∧ s.host.command = some 0x72#8 ∧
       (lookup s.cfg 0x72#8).response[s.host.index]? = some 0x0A#8 ∧ s.tx.busy = true) := by decide

/-- A row that waits, one that stays awake with a pulse remembered, and one that waits with a pulse remembered. -/
theorem witness_HostDispatchClearsAndWaits :
    (let s := dispatching 0x72#8 18
     s.mode = .run ∧ s.host.mode = .dispatching ∧ s.host.command = some 0x72#8 ∧
       (lookup s.cfg 0x72#8).response.length ≤ s.host.index ∧ (lookup s.cfg 0x72#8).stayAwake = false) ∧
    (let s := { dispatching 0x41#8 2 with cfg := { awakeConfig with wakeLatched := true }, host.heldWake := true }
     s.mode = .run ∧ s.host.mode = .dispatching ∧ s.host.command = some 0x41#8 ∧
       (lookup s.cfg 0x41#8).response.length ≤ s.host.index ∧ (lookup s.cfg 0x41#8).stayAwake = true) ∧
    (let s := { dispatching 0x72#8 18 with cfg := { awakeConfig with wakeLatched := true }, host.heldWake := true }
     s.mode = .run ∧ s.host.mode = .dispatching ∧ s.host.command = some 0x72#8 ∧
       (lookup s.cfg 0x72#8).response.length ≤ s.host.index ∧ (lookup s.cfg 0x72#8).stayAwake = false ∧
       (after .hostDispatch s).host.mode = .dispatching) := by decide

theorem witness_HostDispatchIsHeldWhileWaiting : idle.host.mode = .waiting := by decide

theorem witness_HostStaysInsideItsLoop :
    HostInv (dispatching 0x72#8 18) ∧
      exec .hostDispatch (dispatching 0x72#8 18) = .next (after .hostDispatch (dispatching 0x72#8 18)) ∧
    HostInv idle ∧ exec .hostWait idle = .next (after .hostWait idle) :=
  ⟨dispatching_hostInv, exec_after rfl, idle_hostInv, exec_after rfl⟩

/-- The largest operand of both widths of a counter field. -/
theorem witness_DecodeEncodeRoundTrip : (Instr.scheduleNext .rx 0xFFFF).wellFormed 16 = true ∧
    (Instr.reschedule .rx 0x7FFFFF).wellFormed 23 = true ∧ (Instr.send 0xFF#8).wellFormed 24 = true := by decide

theorem witness_DecodeAcceptsExactlyTheTags : 23 ≤ 23 ∧
    decode 23 (.stimulus 0x20FFFFFF#32) = some (.scheduleNext .rx 0x7FFFFF) := by decide

theorem witness_StepRunsTheDecodedOperation :
    (let s := idle.withFetchWord 32 0x02000055
     s.cfg.valid = true ∧ s.script = .stimulus 0x02000055#32 :: [] ∧
       decode s.cfg.operandWidth (.stimulus 0x02000055#32) = some (.send 0x55#8)) ∧
    (let s := idle.withFetchWord 32 0x06000000
     s.cfg.valid = true ∧ s.script = .stimulus 0x06000000#32 :: [] ∧
       decode s.cfg.operandWidth (.stimulus 0x06000000#32) = none) ∧
    (idle.cfg.valid = true ∧ idle.script = []) ∧ (idleWith 16 1 0).cfg.valid = false := by decide

theorem witness_EveryOperationCompletes : isPattern .hostDispatch = false ∧ isPattern .por = false := by decide

theorem witness_InvariantHoldsAtReset : Config.example95.valid = true ∧ awakeConfig.valid = true := by decide

/-- The script holds a tick, which is not internal, and the step completes. -/
theorem witness_StepKeepsTheInvariant :
    let s := idle.withFetchWord 32 0x10000002
    Inv s ∧ (∀ w rest i, s.script = w :: rest → decode s.cfg.operandWidth w = some i → isInternal i = false) ∧
      step s = .next (nextOf (step s) s) := by
  refine ⟨⟨idle_inv.config, ⟨idle_inv.counters.cnt, idle_inv.counters.tx, idle_inv.counters.rx⟩, idle_inv.transmit, idle_inv.receive, idle_inv.aux, idle_inv.unarmed⟩, ?_, rfl⟩
  intro w rest i hs hd
  injection hs with hw
  subst hw
  have : i = .tick false true false := by
    have h : decode 16 (.stimulus 0x10000002#32) = some (.tick false true false) := by decide
    exact Option.some.inj (hd.symm.trans h)
  subst this
  rfl

/-- A tick that drives the stop cell, from a state with the invariant: the next compare lies one bit time ahead, the upper
bound of R39 item 8. -/
theorem witness_StepKeepsTheInvariant_transmit :
    let s := { idle with
      tx := { cmp := 0xFFF9, arm := true, sr := 1, cnt := 1, busy := true, txd := false }, script := [.stimulus 0x10000003#32] }
    let t := nextOf (step s) s
    Inv s ∧ step s = .next t ∧ t.cfg.txFirstOffset = t.cfg.bitTime ∧ t.mode = .run ∧ t.tx.arm = true ∧
      ticksAhead t.cfg t.tx.cmp t.cnt = t.cfg.bitTime := by
  refine ⟨⟨by decide, ⟨by decide, by decide, by decide⟩,
    fun _ => ⟨by decide, by decide, by decide, fun _ => ⟨0x55#8, by decide, by decide⟩, by decide⟩,
    fun _ => ⟨by decide, by decide, by decide, by decide, by decide⟩, by decide, fun h => absurd rfl h⟩,
    rfl, by decide, by decide, by decide, by decide⟩

theorem witness_CountersKeepTheirWidth : CountersInRange idle ∧
    exec (.scheduleNext .tx 0xFFFF) idle = .next (after (.scheduleNext .tx 0xFFFF) idle) :=
  ⟨idle_inv.counters, exec_after rfl⟩

/-- Two states that differ in the receive registers, the mailbox and the lines. -/
theorem witness_TransmitIsIndependentOfReceive :
    let s := { bothFire with rx := idle.rx, cmd := 0x41#8 }
    (s.cfg = bothFire.cfg ∧ s.mode = bothFire.mode ∧ s.cnt = bothFire.cnt ∧ s.tx = bothFire.tx ∧
      exec (.tick false false true) s = .next (after (.tick false false true) s) ∧
      exec (.tick true true false) bothFire = .next (after (.tick true true false) bothFire)) ∧
    exec (.rxStep true) lastSample = .next (after (.rxStep true) lastSample) :=
  ⟨⟨rfl, rfl, rfl, rfl, exec_after rfl, exec_after rfl⟩, exec_after rfl⟩

/-- Two states that differ in the transmit registers and the auxiliary line. -/
theorem witness_ReceiveIsIndependentOfTransmit :
    let s := { bothFire with tx := idle.tx }
    (s.cfg = bothFire.cfg ∧ s.mode = bothFire.mode ∧ s.cnt = bothFire.cnt ∧ s.rx = bothFire.rx ∧
      exec (.tick true false true) s = .next (after (.tick true false true) s) ∧
      exec (.tick true true false) bothFire = .next (after (.tick true true false) bothFire)) ∧
    exec .txStep bothFire = .next (after .txStep bothFire) :=
  ⟨⟨rfl, rfl, rfl, rfl, exec_after rfl, exec_after rfl⟩, exec_after rfl⟩

/-- A tick across the wrap of the counter, a `POR` and an `INIT` without a trim. -/
theorem witness_NoAbsoluteTime :
    let s := { idle with cnt := 0xFFFF }
    (CountersInRange s ∧ exec (.tick true true false) s = .next (after (.tick true true false) s) ∧
      ¬(Instr.tick true true false = .por ∨ s.mode = .uninit ∧ ∃ r a, Instr.tick true true false = .init false r a)) ∧
    exec .por s = .next (after .por s) ∧
    (CountersInRange State.reset ∧ State.reset.mode = .uninit ∧
      exec (.init false true true) State.reset = .next (after (.init false true true) State.reset)) :=
  ⟨⟨⟨by decide, by decide, by decide⟩, exec_after rfl, nofun⟩, exec_after rfl, ⟨by decide, by decide, by decide⟩, rfl,
    exec_after rfl⟩

/-- MB6: an auxiliary edge lands mid-response (8 of 18 bytes handed over), and one in the tick right before the clear. -/
theorem witness_CommandBetweenReadAndClearIsLost :
    (let s := dispatching 0x72#8 8
     s.mode = .run ∧ s.cfg.wakeLatched = false ∧ s.host.mode = .dispatching ∧ s.host.woken = false ∧
       s.host.heldWake = false ∧ s.host.command = some 0x72#8 ∧ (lookup s.cfg 0x72#8).stayAwake = false ∧
       (∀ i ∈ [Instr.tick true false false, .hostDispatch], i ≠ .por ∧ i ≠ .hostWait) ∧
       isNext (runAll [.tick true false false, .hostDispatch] s) = true ∧
       (nextOf (runAll [.tick true false false, .hostDispatch] s) s).host.mode = .dispatching) ∧
    (let s := dispatching 0x72#8 18
     let u := nextOf (runAll [.tick true false false] s) s
     isNext (runAll [.tick true false false] s) = true ∧ u.host.mode = .dispatching ∧ u.cmd = 0xE1#8 ∧
       (lookup s.cfg 0x72#8).response.length ≤ u.host.index) := by decide

/-- An idle block: the first attempt is accepted; and 44 waits of one tick are enough in a busy one. -/
theorem witness_RepeatedSendEndsAccepted :
    let w : Wait := { first := { rxd := true, aux := true, other := false }, more := [] }
    (sendBlocking 0x55#8 [] idle).isSome = true ∧ Inv idle ∧ idle.mode = .run ∧
      idle.cfg.txFirstOffset + 10 * idle.cfg.bitTime ≤ (List.replicate 44 w).length :=
  ⟨by decide, idle_inv, rfl, by decide⟩

end Sys2Proof.Tests
end

section
/-! PROOFS. The family 20_memory.md: when a tick pulses `wake`, and what becomes of `CMD`. -/

namespace Sys2Proof.Machine

/-- The completing `RX_STEP` runs in a tick exactly when the channel is armed, matches the new `CNT` and has one cell
left (40_bit_clock.md R120 step 3, 43_receive_engine.md R180). -/
theorem rxCompletes_iff (s : State) :
    rxCompletes s = true ↔ s.rx.arm = true ∧ (s.cnt + 1) % s.cfg.modulus = s.rx.cmp ∧ s.rx.cnt = 1#4 := by
  rw [Bool.and_eq_true, fires_iff, rxDone_iff, and_assoc, nextCnt, counterAdd]

/-- The wake output of a tick (20_memory.md R63). -/
theorem tick_wake (r a : Level) (o : Bool) (s : State) :
    (tick r a o s).wake = (rxCompletes s || auxAccepted s a) := by
  rw [tick_eq]

/-- The mailbox after a tick: the auxiliary edge is served after the completion and overwrites its byte (R34, R162). -/
theorem tick_cmd (r a : Level) (o : Bool) (s : State) :
    (tick r a o s).cmd = if auxAccepted s a then s.cfg.cmdAux
      else if rxCompletes s then receivedByte (shiftIn r s.rx.sr) else s.cmd := by
  rw [tick_eq]

/-- Settles O15: both clauses about `CMD` follow from the two events that `wake` is the disjunction of. -/
theorem wakeExactlyOnCompletionOrAuxEdge : Obligations.WakeExactlyOnCompletionOrAuxEdge := by
  intro s r a o hrun
  refine ⟨_, exec_tick_run r a o s hrun, ?wake, ?quiet, ?aux⟩
  case wake =>
    rw [tick_wake, Bool.or_eq_true, rxCompletes_iff, edgeAccepted_iff]
  case quiet =>
    intro hwake
    rw [tick_wake, Bool.or_eq_false_iff] at hwake
    obtain ⟨hcompletes, haux⟩ := hwake
    simp [tick_cmd, hcompletes, haux]
  case aux =>
    intro hedge
    have haux : auxAccepted s a = true := (edgeAccepted_iff ..).2 hedge
    simp [tick_cmd, haux]

end Sys2Proof.Machine
end

section
/-! PROOFS. The family 40_bit_clock.md: an injected `DISABLE`. -/

namespace Sys2Proof.Machine

theorem disable_tx_eq (s : State) : disable .tx s = { s with tx.arm := false } := rfl

theorem disable_rx_eq (s : State) : disable .rx s = { s with rx.arm := false } := rfl

/-- Outside `FATAL` an injected `DISABLE` runs on either channel and returns nothing (40_bit_clock.md R125). -/
theorem exec_disable_of_ne_fatal (c : Channel) (s : State) (h : s.mode ≠ .fatal) :
    exec (.disable c) s = .next { disable c s with result := .silent } :=
  injected_run (disable c) s h

/-- Settles O18: in `RUN` the step is not refused, and on each channel `disable` writes the arm bit alone. -/
theorem disableClearsOnlyTheArmBit : Obligations.DisableClearsOnlyTheArmBit := by
  intro s hrun
  have hmode : s.mode ≠ .fatal := by simp [hrun]
  constructor
  · rw [exec_disable_of_ne_fatal .tx s hmode, disable_tx_eq]
  · rw [exec_disable_of_ne_fatal .rx s hmode, disable_rx_eq]

end Sys2Proof.Machine
end

section
/-! PROOFS. The family 41_transmit_engine.md: `SEND`, `TX_STEP` and `STATUS_READ`, branch by branch. -/

namespace Sys2Proof.Machine

/-! ### `SEND` (R140) -/

theorem exec_send_free (s : State) (v : Byte) (hrun : s.mode = .run) (hfree : s.tx.busy = false) :
    exec (.send v) s = .next { s with tx := txLoaded s.cfg s.cnt v s.tx, result := .accepted true } := by
  rw [exec_eq_nextState _ _ rfl]
  simp [nextState, hrun, hfree]

theorem exec_send_busy (s : State) (v : Byte) (hrun : s.mode = .run) (hbusy : s.tx.busy = true) :
    exec (.send v) s = .next { s with result := .accepted false } := by
  rw [exec_eq_nextState _ _ rfl]
  simp [nextState, hrun, hbusy]

theorem exec_send_off (s : State) (v : Byte) (hoff : s.mode ≠ .run) :
    exec (.send v) s = .next { s with result := .silent } := by
  rw [exec_eq_nextState _ _ rfl]
  simp [nextState, hoff]

/-- Settles O22: a free slot takes `txLoaded`, whose pattern is R92's number; the two other branches write no register. -/
theorem sendLoadsAFreeSlotOnly : Obligations.SendLoadsAFreeSlotOnly := by
  refine ⟨?free, exec_send_busy, exec_send_off⟩
  case free =>
    intro s v hrun hfree
    exact ⟨_, exec_send_free s v hrun hfree, rfl, framePattern_toNat v, rfl, rfl, rfl, rfl, rfl, rfl⟩

/-! ### `TX_STEP` (R141) -/

/-- A transmit event with cells left drives the next one. -/
theorem txEvent_of_cells (c : Config) (x : TxRegs) (h : x.cnt ≠ 0#4) :
    txEvent c x = { x with cmp := counterAdd c x.cmp c.bitTime, arm := true, txd := nextCell x.sr, sr := shiftOut x.sr,
                           cnt := x.cnt - 1#4 } :=
  if_neg (mt (txDone_iff x.cnt).1 h)

/-- A transmit event with no cell left frees the slot. -/
theorem txEvent_of_done (c : Config) (x : TxRegs) (h : x.cnt = 0#4) :
    txEvent c x = { x with cmp := counterAdd c x.cmp c.bitTime, arm := false, busy := false } :=
  if_pos ((txDone_iff x.cnt).2 h)

/-- Outside `FATAL` an injected `TX_STEP` is one transmit event and returns nothing. -/
theorem exec_txStep_of_ne_fatal (s : State) (h : s.mode ≠ .fatal) :
    exec .txStep s = .next { s with tx := txEvent s.cfg s.tx, result := .silent } := by
  rw [exec_eq_nextState _ _ rfl]
  simp [nextState, unlessFatal, h]

/-- Settles O23: the step is one transmit event, which splits on `TXCNT = 0`. -/
theorem txStepDrivesACellOrFreesTheSlot : Obligations.TxStepDrivesACellOrFreesTheSlot := by
  constructor
  · intro s hrun hcells
    refine ⟨_, exec_txStep_of_ne_fatal s (by simp [hrun]), ?_⟩
    rw [txEvent_of_cells s.cfg s.tx hcells]
    exact ⟨rfl, rfl, rfl, shiftOut_toNat s.tx.sr, toNat_sub_one s.tx.cnt hcells, rfl, rfl⟩
  · intro s hrun hdone
    rw [exec_txStep_of_ne_fatal s (by simp [hrun]), txEvent_of_done s.cfg s.tx hdone]
    rfl

/-! ### `STATUS_READ` (R142) -/

theorem exec_statusRead_run (s : State) (hrun : s.mode = .run) :
    exec .statusRead s = .next { s with result := .txBusy s.tx.busy } := by
  rw [exec_eq_nextState _ _ rfl]
  simp [nextState, hrun]

/-- A refused read returns a draw (30_encoding.md R103; log 7). -/
theorem exec_statusRead_off (s : State) (hoff : s.mode ≠ .run) :
    exec .statusRead s = .next { skipDraws 1 s with result := .txBusy (drawBit s 0) } := by
  rw [exec_eq_nextState _ _ rfl]
  simp [nextState, hoff]

/-- Settles O24: the refused read consumes a draw and no register changes. -/
theorem statusReadReturnsBusy : Obligations.StatusReadReturnsBusy := by
  refine ⟨exec_statusRead_run, ?off⟩
  case off =>
    intro s hoff
    exact ⟨_, exec_statusRead_off s hoff, by constructor <;> rfl, rfl⟩

end Sys2Proof.Machine
end

section
/-! PROOFS. The family 42_edge_detector.md: an injected `RX_EDGE`, and the two acknowledgements that change nothing. -/

namespace Sys2Proof.Machine

/-- Outside `FATAL` an injected `RX_EDGE` writes the receive registers alone and returns nothing (R161). -/
theorem exec_rxEdge_of_ne_fatal (s : State) (h : s.mode ≠ .fatal) :
    exec .rxEdge s = .next { s with rx := rxStarted s.cfg s.cnt s.rx, result := .silent } :=
  injected_run rxEdge s h

/-- Settles O27: in `RUN` the step is not refused, and `rxStarted` is R161's setting, `HALF_BIT` ahead of `CNT`. -/
theorem rxEdgeStartsAFrame : Obligations.RxEdgeStartsAFrame := by
  intro s hrun
  have hmode : s.mode ≠ .fatal := by simp [hrun]
  rw [exec_rxEdge_of_ne_fatal s hmode]
  rfl

/-- Settles O29: in every mode, refused in `FATAL` or run, both operations answer the state with nothing returned. -/
theorem acknowledgingChangesNothing : Obligations.AcknowledgingChangesNothing := by
  intro s
  constructor
  · exact exec_eq_nextState .otherIrq s rfl
  · exact exec_eq_nextState .clearInterruptFlags s rfl

end Sys2Proof.Machine
end

section
/-! PROOFS. The family 44_command_dispatcher.md: the mailbox operations `CMD_READ` and `CMD_CLEAR`, branch by branch. -/

namespace Sys2Proof.Machine

/-! ### `CMD_READ` (R203) -/

theorem exec_cmdRead_run (s : State) (hrun : s.mode = .run) :
    exec .cmdRead s = .next { s with result := .cmd s.cmd } := by
  rw [exec_eq_nextState _ _ rfl]
  simp [nextState, hrun]

/-- A refused read returns a drawn byte (30_encoding.md R103; log 7). -/
theorem exec_cmdRead_off (s : State) (hoff : s.mode ≠ .run) :
    exec .cmdRead s = .next { skipDraws 1 s with result := .cmd (drawBits 8 s 0) } := by
  rw [exec_eq_nextState _ _ rfl]
  simp [nextState, hoff]

/-- Settles O35: the refused read consumes a draw, and neither a register nor `wake` changes. -/
theorem cmdReadReturnsCmd : Obligations.CmdReadReturnsCmd := by
  refine ⟨exec_cmdRead_run, ?off⟩
  case off =>
    intro s hoff
    exact ⟨_, exec_cmdRead_off s hoff, by constructor <;> rfl, rfl⟩

/-! ### `CMD_CLEAR` (R204) -/

theorem exec_cmdClear_run (s : State) (hrun : s.mode = .run) :
    exec .cmdClear s = .next { s with cmd := s.cfg.cmdIdle, result := .silent } := by
  rw [exec_eq_nextState _ _ rfl]
  simp [nextState, hrun]

theorem exec_cmdClear_off (s : State) (hoff : s.mode ≠ .run) :
    exec .cmdClear s = .next { s with result := .silent } := by
  rw [exec_eq_nextState _ _ rfl]
  simp [nextState, hoff]

/-- Settles O36: the write of `CMD_IDLE` does not look at `CMD`, and the refusal writes no register. -/
theorem cmdClearWritesTheIdleSentinel : Obligations.CmdClearWritesTheIdleSentinel :=
  ⟨exec_cmdClear_run, exec_cmdClear_off⟩

end Sys2Proof.Machine
end

section
/-! PROOFS. The family 45_collaborators.md: an injected `WRITE_LINE`, and the arguments of `CONFIGURE_EDGE_INTERRUPT`. -/

namespace Sys2Proof.Machine

/-! ### `WRITE_LINE` (R221) -/

/-- Outside `FATAL` an injected `WRITE_LINE` drives `TXD` and returns nothing. -/
theorem exec_writeLine_of_ne_fatal (b : Level) (s : State) (h : s.mode ≠ .fatal) :
    exec (.writeLine b) s = .next { s with tx.txd := b, result := .silent } :=
  injected_run (writeLine b) s h

/-- Settles O32: in `RUN` the step is not refused. -/
theorem writeLineDrivesTxd : Obligations.WriteLineDrivesTxd := by
  intro s b hrun
  exact exec_writeLine_of_ne_fatal b s (by simp [hrun])

/-! ### `CONFIGURE_EDGE_INTERRUPT` (R222) -/

/-- The one admitted argument is the falling edge on both lines. -/
theorem edgeConfigAdmitted_iff (e : Edge) (r a : Bool) :
    edgeConfigAdmitted e r a = true ↔ e = .falling ∧ r = true ∧ a = true := by
  simp [edgeConfigAdmitted, and_assoc]

theorem configureEdgeInterrupt_admitted (s : State) :
    configureEdgeInterrupt .falling true true s = { s with rx.ie := true, auxIe := true } :=
  if_pos ((edgeConfigAdmitted_iff ..).2 ⟨rfl, rfl, rfl⟩)

theorem configureEdgeInterrupt_refused (e : Edge) (r a : Bool) (s : State)
    (h : ¬(e = .falling ∧ r = true ∧ a = true)) : configureEdgeInterrupt e r a s = s :=
  if_neg (mt (edgeConfigAdmitted_iff e r a).1 h)

/-- Settles O33: an argument that is not admitted changes nothing whether the step runs or `FATAL` refuses it. -/
theorem configureArmsFallingEdgesOnBothLinesOnly : Obligations.ConfigureArmsFallingEdgesOnBothLinesOnly := by
  constructor
  · intro s hrun
    have hmode : s.mode ≠ .fatal := by simp [hrun]
    calc exec (.configureEdgeInterrupt .falling true true) s
      _ = .next { configureEdgeInterrupt .falling true true s with result := .silent } :=
        injected_run (configureEdgeInterrupt .falling true true) s hmode
      _ = .next { s with rx.ie := true, auxIe := true, result := .silent } := by
        rw [configureEdgeInterrupt_admitted]
  · intro s e r a hother
    calc exec (.configureEdgeInterrupt e r a) s
      _ = .next (unlessFatal s (configureEdgeInterrupt e r a s)) := injected_eq (configureEdgeInterrupt e r a) s
      _ = .next (unlessFatal s s) := by rw [configureEdgeInterrupt_refused e r a s hother]
      _ = .next { s with result := .silent } := by rw [unlessFatal, ite_self]

end Sys2Proof.Machine
end

section
/-! PROOFS. The family 70_reset_and_hazards.md: the branches of `INIT`, and the values `POR` leaves to the environment. -/

namespace Sys2Proof.Machine

/-! ### `INIT` (R281) -/

theorem exec_init_some (s : State) (r a : Level) (h : s.mode = .uninit) :
    exec (.init true r a) s = .next { startUp r a s with result := .silent } := by
  rw [exec_eq_nextState _ _ rfl]
  simp [nextState, h]

theorem exec_init_none (s : State) (r a : Level) (h : s.mode = .uninit) :
    exec (.init false r a) s = .next { noPulse (raiseFatal s) with result := .silent } := by
  rw [exec_eq_nextState _ _ rfl]
  simp [nextState, h]

theorem exec_init_refused (s : State) (p : Bool) (r a : Level) (h : s.mode ≠ .uninit) :
    exec (.init p r a) s = .next { s with result := .silent } := by
  rw [exec_eq_nextState _ _ rfl]
  simp [nextState, h]

/-- Settles O3: `startUp` writes the registers R281 lists, the trap unarms the block, and a refusal writes no register. -/
theorem initStartsTheBlockOnce : Obligations.InitStartsTheBlockOnce := by
  refine ⟨?some, ?none, ?refused⟩
  case some =>
    intro s r a huninit
    refine ⟨_, exec_init_some s r a huninit, ?_⟩
    rw [startUp_eq]
    exact ⟨rfl, rfl, rfl, rfl, rfl, rfl, rfl, rfl, rfl, rfl, rfl, rfl⟩
  case none =>
    intro s r a huninit
    exact ⟨_, exec_init_none s r a huninit, raiseFatal_mode s, raiseFatal_tx_arm s, raiseFatal_rx_arm s,
      raiseFatal_rx_ie s, raiseFatal_auxIe s⟩
  case refused =>
    intro s p r a hother
    exact ⟨_, exec_init_refused s p r a hother, by constructor <;> rfl⟩

/-! ### Supplied draws (10_state.md R40; log 5) -/

theorem drawAt_of_supplied {s : State} {k d : Nat} (h : s.draws[k]? = some d) : drawAt s k = d := by
  rw [drawAt, h]

theorem drawBit_of_supplied {s : State} {k : Nat} {b : Bool} (h : s.draws[k]? = some b.toNat) : drawBit s k = b := by
  rw [drawBit, drawAt_of_supplied h]
  cases b <;> rfl

theorem drawBits_of_supplied {s : State} {k w : Nat} {v : BitVec w} (h : s.draws[k]? = some v.toNat) :
    drawBits w s k = v := by
  rw [drawBits, drawAt_of_supplied h, BitVec.ofNat_toNat, BitVec.setWidth_eq]

theorem drawCounter_of_supplied {s : State} {k n : Nat} (h : s.draws[k]? = some n) (hn : n < s.cfg.modulus) :
    drawCounter s k = n := by
  rw [drawCounter, drawAt_of_supplied h, Nat.mod_eq_of_lt hn]

/-- A byte that may be absent takes two draws: whether it is there, and its value. -/
theorem drawOption_byte_of_supplied {s : State} {k : Nat} {o : Option Byte} (hb : s.draws[k]? = some o.isSome.toNat)
    (hv : s.draws[k + 1]? = some (o.getD 0).toNat) : (drawOption s k).map (BitVec.ofNat 8) = o := by
  rw [drawOption, drawBit_of_supplied hb, drawAt_of_supplied hv]
  cases o <;> simp

/-- The draws from which `unspecify` takes the block's registers, and `LED`, of `u`, in its order. -/
def blockDraws (u : State) : List Nat :=
  [u.cnt,
   u.tx.cmp, u.tx.sr.toNat, u.tx.cnt.toNat, u.tx.busy.toNat, u.tx.txd.toNat,
   u.rx.cmp, u.rx.sr.toNat, u.rx.cnt.toNat, u.rx.act.toNat, u.rx.prev.toNat,
   u.auxPrev.toNat, u.cmd.toNat, u.host.led.toNat]

/-- The draws from which `unspecifyHost` takes the host's own state of `h`, in its order. -/
def agentDraws (h : HostAgent) : List Nat :=
  [(h.mode == .dispatching).toNat, h.command.isSome.toNat, (h.command.getD 0).toNat, h.index, h.heldWake.toNat]

/-- `unspecify` can reach any in-range values of the registers it leaves unspecified (R40). -/
theorem unspecify_of_supplied (s u : State) (rest : List Nat) (hd : s.draws = blockDraws u ++ rest)
    (hcnt : u.cnt < s.cfg.modulus) (htx : u.tx.cmp < s.cfg.modulus) (hrx : u.rx.cmp < s.cfg.modulus) :
    unspecify s =
      { s with cnt := u.cnt, tx := { u.tx with arm := false }, rx := { u.rx with arm := false, ie := false },
               auxIe := false, auxPrev := u.auxPrev, cmd := u.cmd, host.led := u.host.led,
               draws := rest, drawn := s.drawn + unspecifiedDraws } := by
  have hk (k : Nat) : s.draws[k]? = (blockDraws u ++ rest)[k]? := congrArg (·[k]?) hd
  have hrest : s.draws.drop unspecifiedDraws = rest := congrArg (·.drop unspecifiedDraws) hd
  rw [unspecify, skipDraws, hrest,
    drawCounter_of_supplied (hk 0) hcnt,
    drawCounter_of_supplied (hk 1) htx, drawBits_of_supplied (v := u.tx.sr) (hk 2),
    drawBits_of_supplied (v := u.tx.cnt) (hk 3), drawBit_of_supplied (b := u.tx.busy) (hk 4),
    drawBit_of_supplied (b := u.tx.txd) (hk 5),
    drawCounter_of_supplied (hk 6) hrx, drawBits_of_supplied (v := u.rx.sr) (hk 7),
    drawBits_of_supplied (v := u.rx.cnt) (hk 8), drawBit_of_supplied (b := u.rx.act) (hk 9),
    drawBit_of_supplied (b := u.rx.prev) (hk 10),
    drawBit_of_supplied (b := u.auxPrev) (hk 11), drawBits_of_supplied (v := u.cmd) (hk 12),
    drawBit_of_supplied (b := u.host.led) (hk 13)]

/-- `unspecifyHost` can reach any state of the host; `LED` and the pulse are not its draws (R41). -/
theorem unspecifyHost_of_supplied (s : State) (h : HostAgent) (rest : List Nat) (hd : s.draws = agentDraws h ++ rest) :
    unspecifyHost s =
      { s with host := { h with led := s.host.led, woken := s.host.woken },
               draws := rest, drawn := s.drawn + hostDraws } := by
  have hk (k : Nat) : s.draws[k]? = (agentDraws h ++ rest)[k]? := congrArg (·[k]?) hd
  have hrest : s.draws.drop hostDraws = rest := congrArg (·.drop hostDraws) hd
  have hmode : (if (h.mode == .dispatching) = true then HostMode.dispatching else .waiting) = h.mode := by
    cases h.mode <;> rfl
  rw [unspecifyHost, skipDraws, hrest,
    drawBit_of_supplied (b := h.mode == .dispatching) (hk 0), hmode,
    drawOption_byte_of_supplied (hk 1) (hk 2),
    drawAt_of_supplied (d := h.index) (hk 3), drawBit_of_supplied (b := h.heldWake) (hk 4)]

/-! ### `POR` (R280) -/

/-- `POR` runs in every mode. -/
theorem exec_por (s : State) : exec .por s = .next { powerOn s with result := .silent } :=
  exec_eq_nextState .por s rfl

/-- Power-on reset with the draws of `u` supplied: the registers of `u`, nothing armed and no pulse pending. -/
theorem powerOn_of_supplied (s u : State) (hd : s.draws = blockDraws u ++ agentDraws u.host)
    (hcnt : u.cnt < s.cfg.modulus) (htx : u.tx.cmp < s.cfg.modulus) (hrx : u.rx.cmp < s.cfg.modulus) :
    powerOn s =
      { s with mode := .uninit, cnt := u.cnt, tx := { u.tx with arm := false },
               rx := { u.rx with arm := false, ie := false }, auxIe := false, auxPrev := u.auxPrev, cmd := u.cmd,
               host := { u.host with woken := false }, wake := false,
               draws := [], drawn := s.drawn + unspecifiedDraws + hostDraws } := by
  rw [powerOn, unspecify_of_supplied s u _ hd hcnt htx hrx, unspecifyHost_of_supplied _ u.host [] (List.append_nil _).symm]
  rfl

/-- Settles O2: the unarmed registers are no draws, and the draws of the wanted state lead to it. -/
theorem porUnarmsAndLeavesTheRestUnspecified : Obligations.PorUnarmsAndLeavesTheRestUnspecified := by
  constructor
  case left =>
    intro s
    exact ⟨_, exec_por s, rfl, rfl, rfl, rfl, rfl, rfl, rfl, rfl⟩
  case right =>
    intro s u hcnt htx hrx
    refine ⟨blockDraws u ++ agentDraws u.host, _, exec_por _, ?_⟩
    rw [powerOn_of_supplied { s with draws := _ } u rfl hcnt htx hrx]
    exact ⟨rfl, rfl, rfl, rfl, rfl, rfl, rfl, rfl, rfl, rfl⟩

end Sys2Proof.Machine
end

section
/-! PROOFS. Runs of ticks: in `RUN` every tick completes, and after any number of them the counter and the registers of an
engine are a function of the parameters, of `CNT` and of that engine's own registers and line (20_memory.md R76). -/

namespace Sys2Proof.Machine

/-! ### One tick in `RUN` (R120) -/

/-- The next state of a `TICK` in `RUN`. -/
def ticked (x : TickInput) (s : State) : State := silently (tick x.rxd x.aux x.other s)

theorem exec_tick_eq_ticked (x : TickInput) (s : State) (hrun : s.mode = .run) :
    exec x.tick s = .next (ticked x s) :=
  exec_tick_run x.rxd x.aux x.other s hrun

@[simp] theorem ticked_cfg (x : TickInput) (s : State) : (ticked x s).cfg = s.cfg := by
  rw [ticked, tick_eq]

@[simp] theorem ticked_mode (x : TickInput) (s : State) : (ticked x s).mode = s.mode := by
  rw [ticked, tick_eq]

theorem ticked_cnt (x : TickInput) (s : State) : (ticked x s).cnt = counterAdd s.cfg s.cnt 1 := by
  rw [ticked, tick_eq]

theorem ticked_tx (x : TickInput) (s : State) :
    (ticked x s).tx = txTick s.cfg (counterAdd s.cfg s.cnt 1) s.tx := by
  rw [ticked, tick_eq]

theorem ticked_rx (x : TickInput) (s : State) :
    (ticked x s).rx = rxTick s.cfg (counterAdd s.cfg s.cnt 1) x.rxd s.rx := by
  rw [ticked, tick_eq]

theorem ticked_auxIe (x : TickInput) (s : State) : (ticked x s).auxIe = s.auxIe := by
  rw [ticked, tick_eq]

theorem ticked_wake (x : TickInput) (s : State) : (ticked x s).wake = (rxCompletes s || auxAccepted s x.aux) :=
  tick_wake x.rxd x.aux x.other s

theorem ticked_cmd (x : TickInput) (s : State) :
    (ticked x s).cmd = if auxAccepted s x.aux then s.cfg.cmdAux
      else if rxCompletes s then receivedByte (shiftIn x.rxd s.rx.sr) else s.cmd :=
  tick_cmd x.rxd x.aux x.other s

/-! ### Many ticks -/

/-- The state after `n` ticks. -/
def afterTicks (inputs : Nat → TickInput) (n : Nat) (s : State) : State :=
  match n with
  | 0 => s
  | k + 1 => ticked (inputs k) (afterTicks inputs k s)

@[simp] theorem afterTicks_mode (inputs : Nat → TickInput) (n : Nat) (s : State) :
    (afterTicks inputs n s).mode = s.mode := by
  induction n with
  | zero => rfl
  | succ k ih => rw [afterTicks, ticked_mode, ih]

@[simp] theorem afterTicks_cfg (inputs : Nat → TickInput) (n : Nat) (s : State) :
    (afterTicks inputs n s).cfg = s.cfg := by
  induction n with
  | zero => rfl
  | succ k ih => rw [afterTicks, ticked_cfg, ih]

/-- No tick of a run in `RUN` stops it. -/
theorem runTicks_eq_afterTicks (inputs : Nat → TickInput) (n : Nat) (s : State) (hrun : s.mode = .run) :
    runTicks inputs n s = .next (afterTicks inputs n s) := by
  induction n with
  | zero => rfl
  | succ k ih =>
    rw [runTicks, ih]
    exact exec_tick_eq_ticked _ _ (by rw [afterTicks_mode, hrun])

/-- The counter that the `k + 1`-th tick compares. -/
theorem afterTicks_nextCnt (inputs : Nat → TickInput) (k : Nat) (s : State) :
    counterAdd s.cfg (afterTicks inputs k s).cnt 1 = counterAdd s.cfg s.cnt (k + 1) := by
  induction k with
  | zero => rfl
  | succ k ih => rw [afterTicks, ticked_cnt, afterTicks_cfg, ih, counterAdd_assoc]

theorem afterTicks_cnt_succ (inputs : Nat → TickInput) (k : Nat) (s : State) :
    (afterTicks inputs (k + 1) s).cnt = counterAdd s.cfg s.cnt (k + 1) := by
  rw [afterTicks, ticked_cnt, afterTicks_cfg, afterTicks_nextCnt]

theorem afterTicks_add (inputs : Nat → TickInput) (m n : Nat) (s : State) :
    afterTicks inputs (m + n) s = afterTicks (fun k => inputs (m + k)) n (afterTicks inputs m s) := by
  induction n with
  | zero => rfl
  | succ k ih => rw [← Nat.add_assoc, afterTicks, ih, afterTicks]

/-! ### The transmit registers after many ticks -/

/-- The transmit registers `n` ticks after they were `x` at counter value `cnt`. -/
def txAfter (c : Config) (cnt n : Nat) (x : TxRegs) : TxRegs :=
  match n with
  | 0 => x
  | k + 1 => txTick c (counterAdd c cnt (k + 1)) (txAfter c cnt k x)

theorem afterTicks_tx (inputs : Nat → TickInput) (n : Nat) (s : State) :
    (afterTicks inputs n s).tx = txAfter s.cfg s.cnt n s.tx := by
  induction n with
  | zero => rfl
  | succ k ih => rw [afterTicks, ticked_tx, afterTicks_cfg, afterTicks_nextCnt, ih, txAfter]

theorem txAfter_add (c : Config) (cnt m n : Nat) (x : TxRegs) :
    txAfter c cnt (m + n) x = txAfter c (counterAdd c cnt m) n (txAfter c cnt m x) := by
  induction n with
  | zero => rfl
  | succ k ih => rw [← Nat.add_assoc, txAfter, ih, txAfter, counterAdd_assoc, Nat.add_assoc]

/-! ### The receive registers after many ticks -/

/-- The receive registers `n` ticks after they were `x` at counter value `cnt`, with the line at `levels k` in the
`k + 1`-th. -/
def rxAfter (c : Config) (cnt : Nat) (levels : Nat → Level) (n : Nat) (x : RxRegs) : RxRegs :=
  match n with
  | 0 => x
  | k + 1 => rxTick c (counterAdd c cnt (k + 1)) (levels k) (rxAfter c cnt levels k x)

theorem afterTicks_rx (inputs : Nat → TickInput) (n : Nat) (s : State) :
    (afterTicks inputs n s).rx = rxAfter s.cfg s.cnt (fun k => (inputs k).rxd) n s.rx := by
  induction n with
  | zero => rfl
  | succ k ih => rw [afterTicks, ticked_rx, afterTicks_cfg, afterTicks_nextCnt, ih, rxAfter]

theorem rxAfter_add (c : Config) (cnt : Nat) (levels : Nat → Level) (m n : Nat) (x : RxRegs) :
    rxAfter c cnt levels (m + n) x =
      rxAfter c (counterAdd c cnt m) (fun k => levels (m + k)) n (rxAfter c cnt levels m x) := by
  induction n with
  | zero => rfl
  | succ k ih => rw [← Nat.add_assoc, rxAfter, ih, rxAfter, counterAdd_assoc, Nat.add_assoc]

/-! ### When a compare value matches (40_bit_clock.md R123, R128) -/

/-- A compare value `d` ticks ahead, less than a whole turn of the counter, is met by none of the ticks before. -/
theorem fires_before (c : Config) (arm : Bool) (cnt d k : Nat) (hd : d < c.modulus) (hk : k < d) :
    fires arm (counterAdd c cnt d) (counterAdd c cnt k) = false := by
  rw [fires_false_iff]
  rintro ⟨-, heq⟩
  have hmod : k ≡ d [MOD c.modulus] := Nat.ModEq.add_left_cancel' cnt heq
  rw [Nat.ModEq, Nat.mod_eq_of_lt (by omega), Nat.mod_eq_of_lt hd] at hmod
  omega

/-- The armed channel fires in the tick that reaches the compare value. -/
theorem fires_at (cmp : Nat) : fires true cmp cmp = true := (fires_iff ..).2 ⟨rfl, rfl⟩

/-- Until its compare value is reached the transmit channel stands still. -/
theorem txAfter_of_lt (c : Config) (cnt d k : Nat) (x : TxRegs) (hcmp : x.cmp = counterAdd c cnt d)
    (hd : d < c.modulus) (hk : k < d) : txAfter c cnt k x = x := by
  induction k with
  | zero => rfl
  | succ k ih =>
    rw [txAfter, ih (by omega), txTick, hcmp, fires_before c x.arm cnt d (k + 1) hd hk]
    rfl

/-- The tick that reaches the compare value of the armed channel serves one transmit event. -/
theorem txAfter_of_eq (c : Config) (cnt d : Nat) (x : TxRegs) (hcmp : x.cmp = counterAdd c cnt d) (harm : x.arm = true)
    (hd : d < c.modulus) (hpos : 1 ≤ d) : txAfter c cnt d x = txEvent c x := by
  obtain ⟨k, rfl⟩ : ∃ k, d = k + 1 := ⟨d - 1, by omega⟩
  rw [txAfter, txAfter_of_lt c cnt (k + 1) k x hcmp hd (by omega), txTick, harm, hcmp, fires_at, if_pos rfl]

/-- With the edge detection off, nothing but `RXPREV` changes until the compare value is reached. -/
theorem rxAfter_of_lt (c : Config) (cnt d k : Nat) (levels : Nat → Level) (x : RxRegs)
    (hcmp : x.cmp = counterAdd c cnt d) (hie : x.ie = false) (hd : d < c.modulus) (hk : k < d) :
    ∃ p, rxAfter c cnt levels k x = { x with prev := p } := by
  induction k with
  | zero => exact ⟨x.prev, rfl⟩
  | succ k ih =>
    obtain ⟨p, hp⟩ := ih (by omega)
    refine ⟨levels k, ?_⟩
    rw [rxAfter, hp, rxTick]
    simp [hcmp, fires_before c x.arm cnt d (k + 1) hd hk, edgeAccepted, hie]

end Sys2Proof.Machine
end

section
/-! PROOFS. The transmit timeline (41_transmit_engine.md R143): a transmit event is served exactly at its offset, and the
eleven events of a frame follow one another a bit time apart. -/

namespace Sys2Proof.Machine

/-- Outside `FATAL` an injected `SCHEDULE_NEXT` arms the channel and returns nothing (40_bit_clock.md R123). -/
theorem exec_scheduleNext_of_ne_fatal (c : Channel) (n : Nat) (s : State) (h : s.mode ≠ .fatal) :
    exec (.scheduleNext c n) s = .next { armAt c (counterAdd s.cfg s.cnt n) s with result := .silent } :=
  injected_run (scheduleNext c n) s h

/-- Settles O20: the compare value `n` ahead is met by the `n`-th tick and by none before. -/
theorem scheduledEventIsServedAtItsOffset : Obligations.ScheduledEventIsServedAtItsOffset := by
  intro s t n inputs hrun _ hpos hn ht
  have hmode : s.mode ≠ .fatal := by simp [hrun]
  rw [exec_scheduleNext_of_ne_fatal .tx n s hmode] at ht
  injection ht with ht
  have htrun : t.mode = .run := by rw [← ht]; exact hrun
  have hcmp : t.tx.cmp = counterAdd t.cfg t.cnt n := by rw [← ht]; rfl
  have harm : t.tx.arm = true := by rw [← ht]; rfl
  have hcfg : t.cfg = s.cfg := by rw [← ht]; rfl
  rw [← hcfg] at hn
  constructor
  · intro k hk
    refine ⟨_, runTicks_eq_afterTicks inputs k t htrun, ?_⟩
    rw [afterTicks_tx, txAfter_of_lt t.cfg t.cnt n k t.tx hcmp hn hk]
  · have hstep := exec_txStep_of_ne_fatal { t with tx.arm := false } (by simp [htrun])
    refine ⟨_, _, runTicks_eq_afterTicks inputs n t htrun, hstep, ?_⟩
    rw [afterTicks_tx, txAfter_of_eq t.cfg t.cnt n t.tx hcmp harm hn hpos]
    exact (txEvent_arm t.cfg t.tx false).symm

/-! ### The frame event by event -/

/-- The transmit registers when `e` of the eleven events of the frame of `v`, sent at counter value `cnt`, have been
served and the slot is still taken, `e ≤ 10`. -/
def frameRegs (c : Config) (cnt : Nat) (v : Byte) (e : Nat) : TxRegs where
  cmp := counterAdd c cnt (c.txFirstOffset + e * c.bitTime)
  arm := true
  sr := framePattern v >>> e
  cnt := BitVec.ofNat 4 (10 - e)
  busy := true
  txd := if e = 0 then true else (framePattern v).getLsbD (e - 1)

theorem txLoaded_eq_frameRegs (c : Config) (cnt : Nat) (v : Byte) (x : TxRegs) (hmark : x.txd = true) :
    txLoaded c cnt v x = frameRegs c cnt v 0 := by
  simp [txLoaded, frameRegs, hmark]

/-- The stop cell (30_encoding.md R91). -/
theorem framePattern_stop (v : Byte) : (framePattern v).getLsbD 9 = true := by
  revert v; decide

/-- The start cell. -/
theorem framePattern_start (v : Byte) : (framePattern v).getLsbD 0 = false := by
  revert v; decide

/-- Cell `i + 1` carries bit `i` of the byte, the least significant one first. -/
theorem framePattern_data (v : Byte) (i : Nat) (hi : i < 8) : (framePattern v).getLsbD (i + 1) = v.getLsbD i := by
  interval_cases i <;> revert v <;> decide

theorem toNat_cells (e : Nat) : (BitVec.ofNat 4 (10 - e)).toNat = 10 - e := by
  rw [BitVec.toNat_ofNat]
  omega

/-- Each of the first ten events drives a cell. -/
theorem txEvent_frameRegs (c : Config) (cnt : Nat) (v : Byte) (e : Nat) (he : e ≤ 9) :
    txEvent c (frameRegs c cnt v e) = frameRegs c cnt v (e + 1) := by
  have hcells : BitVec.ofNat 4 (10 - e) ≠ 0#4 := by
    intro h
    have := congrArg BitVec.toNat h
    rw [toNat_cells] at this
    simp at this
    omega
  have hcnt : BitVec.ofNat 4 (10 - e) - 1#4 = BitVec.ofNat 4 (10 - (e + 1)) := by
    apply BitVec.eq_of_toNat_eq
    rw [toNat_sub_one _ hcells, toNat_cells, toNat_cells]
    omega
  have hcmp : counterAdd c (counterAdd c cnt (c.txFirstOffset + e * c.bitTime)) c.bitTime
      = counterAdd c cnt (c.txFirstOffset + (e + 1) * c.bitTime) := by
    rw [counterAdd_assoc, Nat.add_assoc, Nat.succ_mul]
  rw [txEvent_of_cells c _ hcells]
  simp only [frameRegs, hcmp, hcnt, nextCell, shiftOut]
  simp [BitVec.shiftRight_add]

/-- The eleventh event frees the slot. -/
def freedRegs (c : Config) (cnt : Nat) (v : Byte) : TxRegs :=
  { frameRegs c cnt v 10 with
    cmp := counterAdd c cnt (c.txFirstOffset + 11 * c.bitTime), arm := false, busy := false }

theorem txEvent_frameRegs_last (c : Config) (cnt : Nat) (v : Byte) :
    txEvent c (frameRegs c cnt v 10) = freedRegs c cnt v := by
  rw [txEvent_of_done c _ rfl, freedRegs]
  simp only [frameRegs, counterAdd_assoc, Nat.add_assoc, ← Nat.succ_mul]

/-! ### The frame tick by tick -/

section
variable (c : Config) (cnt : Nat) (v : Byte) (hvalid : c.valid = true)
include hvalid

/-- The `e + 1`-th event comes one bit time after the `e`-th, the first at the first offset. -/
theorem txAfter_frameRegs_at (e : Nat) (he : e ≤ 10) :
    txAfter c cnt (c.txFirstOffset + e * c.bitTime) (frameRegs c cnt v 0) = txEvent c (frameRegs c cnt v e) := by
  obtain ⟨hfirst, hfirst_lt⟩ := valid_txFirstOffset c hvalid
  obtain ⟨hbit, hbit_lt⟩ := valid_bitTime c hvalid
  induction e with
  | zero =>
    rw [Nat.zero_mul, Nat.add_zero]
    exact txAfter_of_eq c cnt _ _ (by simp [frameRegs]) rfl hfirst_lt hfirst
  | succ e ih =>
    have hcmp : (frameRegs c cnt v (e + 1)).cmp
        = counterAdd c (counterAdd c cnt (c.txFirstOffset + e * c.bitTime)) c.bitTime := by
      rw [counterAdd_assoc, Nat.add_assoc, ← Nat.succ_mul]
      rfl
    rw [Nat.succ_mul, ← Nat.add_assoc, txAfter_add, ih (by omega), txEvent_frameRegs c cnt v e (by omega),
      txAfter_of_eq c _ _ _ hcmp rfl hbit_lt (by omega)]

/-- Before the first event the frame is as it was loaded. -/
theorem txAfter_frameRegs_before (n : Nat) (hn : n < c.txFirstOffset) :
    txAfter c cnt n (frameRegs c cnt v 0) = frameRegs c cnt v 0 :=
  txAfter_of_lt c cnt c.txFirstOffset n _ (by simp [frameRegs]) (valid_txFirstOffset c hvalid).2 hn

/-- In the bit period after the `k + 1`-th event its registers stand. -/
theorem txAfter_frameRegs_between (k n : Nat) (hk : k ≤ 9) (hlow : c.txFirstOffset + k * c.bitTime ≤ n)
    (hhigh : n < c.txFirstOffset + (k + 1) * c.bitTime) :
    txAfter c cnt n (frameRegs c cnt v 0) = frameRegs c cnt v (k + 1) := by
  obtain ⟨m, rfl⟩ := Nat.exists_eq_add_of_le hlow
  have hm : m < c.bitTime := by rw [Nat.succ_mul] at hhigh; omega
  rw [txAfter_add, txAfter_frameRegs_at c cnt v hvalid k (by omega), txEvent_frameRegs c cnt v k hk]
  refine txAfter_of_lt c _ c.bitTime m _ ?_ (valid_bitTime c hvalid).2 hm
  rw [counterAdd_assoc, Nat.add_assoc, ← Nat.succ_mul]
  rfl

/-- After the eleventh event the freed slot stands: its channel is disarmed. -/
theorem txAfter_frameRegs_end (n : Nat) (hn : c.txFirstOffset + 10 * c.bitTime ≤ n) :
    txAfter c cnt n (frameRegs c cnt v 0) = freedRegs c cnt v := by
  induction n, hn using Nat.le_induction with
  | base => rw [txAfter_frameRegs_at c cnt v hvalid 10 le_rfl, txEvent_frameRegs_last]
  | succ n _ ih => rw [txAfter, ih]; rfl

end

/-- Settles O25: the registers of the accepted frame, followed from event to event. -/
theorem transmitFrameTimeline : Obligations.TransmitFrameTimeline := by
  intro s t v inputs n hvalid _ hrun hfree hmark ht _
  rw [exec_send_free s v hrun hfree, txLoaded_eq_frameRegs s.cfg s.cnt v s.tx hmark] at ht
  injection ht with ht
  have htrun : t.mode = .run := by rw [← ht]; exact hrun
  have htx : (afterTicks inputs n t).tx = txAfter s.cfg s.cnt n (frameRegs s.cfg s.cnt v 0) := by
    rw [afterTicks_tx, ← ht]
  refine ⟨_, runTicks_eq_afterTicks inputs n t htrun, ?mark, ?cells, ?freed⟩ <;> rw [htx]
  case mark =>
    intro hn
    rw [txAfter_frameRegs_before s.cfg s.cnt v hvalid n hn]
    exact ⟨rfl, rfl, rfl⟩
  case cells =>
    intro k hk hlow hhigh
    rw [txAfter_frameRegs_between s.cfg s.cnt v hvalid k n hk hlow hhigh]
    refine ⟨rfl, ?_, rfl⟩
    exact (toNat_cells (k + 1)).trans (by omega)
  case freed =>
    intro hn
    rw [txAfter_frameRegs_end s.cfg s.cnt v hvalid n hn]
    exact ⟨framePattern_stop v, rfl, rfl⟩

end Sys2Proof.Machine
end

section
/-! PROOFS. The receive timeline (43_receive_engine.md R183 to R187): the ten samples of a started frame, one bit time
apart, and what becomes visible at the last one only. -/

namespace Sys2Proof.Machine

/-! ### One receive event (R180) -/

/-- An event with more than one sample left takes one. -/
theorem rxEvent_of_samples (c : Config) (b : Level) (x : RxRegs) (h : 2 ≤ x.cnt.toNat) :
    rxEvent c b x =
      { x with cmp := counterAdd c x.cmp c.bitTime, arm := true, sr := shiftIn b x.sr, cnt := x.cnt - 1#4 } := by
  have hunder : ¬rxUnderflows x.cnt = true := by
    rw [rxUnderflows_iff]
    rintro h0
    simp [h0] at h
  have hmore : ¬rxDone x.cnt = true := by
    rw [rxDone_iff]
    rintro h1
    simp [h1] at h
  rw [rxEvent, if_neg hunder, if_neg hmore]

/-- The event with one sample left completes the reception. -/
theorem rxEvent_of_last (c : Config) (b : Level) (x : RxRegs) (h : x.cnt = 1#4) :
    rxEvent c b x =
      { x with cmp := counterAdd c x.cmp c.bitTime, arm := false, sr := shiftIn b x.sr, cnt := 0#4, act := false,
               ie := true } := by
  have hunder : ¬rxUnderflows x.cnt = true := by simp [rxUnderflows_iff, h]
  rw [rxEvent, if_neg hunder, if_pos ((rxDone_iff x.cnt).2 h), h]
  rfl

/-- What the edge test of a tick does to the receive registers left by its receive event (R120 steps 4 and 7). -/
def rxEdged (c : Config) (cnt : Nat) (r : Level) (y : RxRegs) : RxRegs :=
  { (if edgeAccepted y.ie y.prev r then rxStarted c cnt y else y) with prev := r }

theorem rxEdged_of_edge (c : Config) (cnt : Nat) (r : Level) (y : RxRegs) (h : edgeAccepted y.ie y.prev r = true) :
    rxEdged c cnt r y = { rxStarted c cnt y with prev := r } := by
  rw [rxEdged, if_pos h]

theorem rxEdged_of_quiet (c : Config) (cnt : Nat) (r : Level) (y : RxRegs) (h : edgeAccepted y.ie y.prev r = false) :
    rxEdged c cnt r y = { y with prev := r } := by
  rw [rxEdged, h, if_neg Bool.false_ne_true]

/-- A tick with a receive match serves the event; an edge counts if the detection is on after it. -/
theorem rxTick_of_fire (c : Config) (cnt : Nat) (r : Level) (x : RxRegs) (h : fires x.arm x.cmp cnt = true) :
    rxTick c cnt r x = rxEdged c cnt r (rxEvent c r { x with arm := false }) := by
  rw [rxTick, h, if_pos rfl]
  rfl

theorem rxTick_of_no_fire (c : Config) (cnt : Nat) (r : Level) (x : RxRegs) (h : fires x.arm x.cmp cnt = false) :
    rxTick c cnt r x = rxEdged c cnt r x := by
  rw [rxTick, h, if_neg Bool.false_ne_true]
  rfl

/-- The tick that reaches the compare value with more than one sample left takes one, the edge detection being off. -/
theorem rxAfter_of_eq (c : Config) (cnt d : Nat) (levels : Nat → Level) (x : RxRegs)
    (hcmp : x.cmp = counterAdd c cnt d) (harm : x.arm = true) (hie : x.ie = false) (hsamples : 2 ≤ x.cnt.toNat)
    (hd : d < c.modulus) (hpos : 1 ≤ d) :
    rxAfter c cnt levels d x =
      { x with cmp := counterAdd c x.cmp c.bitTime, arm := true, sr := shiftIn (levels (d - 1)) x.sr,
               cnt := x.cnt - 1#4, prev := levels (d - 1) } := by
  obtain ⟨k, rfl⟩ : ∃ k, d = k + 1 := ⟨d - 1, by omega⟩
  obtain ⟨p, hp⟩ := rxAfter_of_lt c cnt (k + 1) k levels x hcmp hie hd (by omega)
  rw [rxAfter, hp, rxTick_of_fire _ _ _ _ (by simp [harm, hcmp, fires_at]),
    rxEvent_of_samples c _ { x with arm := false, prev := p } hsamples,
    rxEdged_of_quiet _ _ _ _ (by simp [edgeAccepted, hie])]
  rfl

/-! ### The frame sample by sample -/

/-- The tick, counted from the edge, of sample `j`, the first being sample 0 (R183). -/
def sampleTick (c : Config) (j : Nat) : Nat := c.halfBit + j * c.bitTime

@[simp] theorem sampleTick_zero (c : Config) : sampleTick c 0 = c.halfBit := by
  rw [sampleTick, Nat.zero_mul, Nat.add_zero]

theorem sampleTick_succ (c : Config) (j : Nat) : sampleTick c (j + 1) = sampleTick c j + c.bitTime := by
  rw [sampleTick, sampleTick, Nat.succ_mul, Nat.add_assoc]

/-- The accumulator after `j` samples. -/
def sampledBits (c : Config) (levels : Nat → Level) (j : Nat) : Pattern :=
  match j with
  | 0 => 0#10
  | i + 1 => shiftIn (levels (sampleTick c i - 1)) (sampledBits c levels i)

/-- The receive registers when `j` samples of the frame that started at counter value `cnt` have been taken, `j ≤ 9`, and
the line was last seen at `p`. -/
def samplingRegs (c : Config) (cnt : Nat) (levels : Nat → Level) (j : Nat) (p : Level) : RxRegs where
  cmp := counterAdd c cnt (sampleTick c j)
  arm := true
  sr := sampledBits c levels j
  cnt := BitVec.ofNat 4 (10 - j)
  act := true
  ie := false
  prev := p

theorem rxStarted_eq_samplingRegs (c : Config) (cnt : Nat) (levels : Nat → Level) (x : RxRegs) :
    rxStarted c cnt x = samplingRegs c cnt levels 0 x.prev := by
  simp [rxStarted, samplingRegs, sampledBits]

/-- Sample `i` stands `j - i` places below the top after `j` samples. -/
theorem sampledBits_getLsbD (c : Config) (levels : Nat → Level) (i j : Nat) (hi : i < j) (hj : j ≤ 10) :
    (sampledBits c levels j).getLsbD (10 + i - j) = levels (sampleTick c i - 1) := by
  induction j with
  | zero => omega
  | succ j ih =>
    rw [sampledBits, shiftIn_getLsbD]
    by_cases h : i = j
    · rw [if_pos (by omega), h]
    · rw [if_neg (by omega), show 10 + i - (j + 1) + 1 = 10 + i - j by omega, ih (by omega) (by omega)]

/-- Every tick before the last sample lies after some `j ≤ 9` samples and before the next. -/
theorem exists_samples_before (c : Config) (n : Nat) (hn : n < sampleTick c 9) :
    ∃ j ≤ 9, (j = 0 ∨ sampleTick c (j - 1) ≤ n) ∧ n < sampleTick c j := by
  have hex : ∃ j, n < sampleTick c j := ⟨9, hn⟩
  refine ⟨Nat.find hex, Nat.find_min' hex hn, ?_, Nat.find_spec hex⟩
  rcases Nat.eq_zero_or_pos (Nat.find hex) with h0 | hpos
  · exact .inl h0
  · exact .inr (not_lt.1 (Nat.find_min hex (by omega)))

section
variable (c : Config) (cnt : Nat) (levels : Nat → Level) (p : Level) (hvalid : c.valid = true)
include hvalid

omit hvalid in
/-- From any tick `m` before it, sample `j` is taken at its tick. -/
theorem rxAfter_samplingRegs_sample (j m d : Nat) (q : Level) (hj : j ≤ 8) (hsum : sampleTick c j = m + d)
    (hd : d < c.modulus) (hpos : 1 ≤ d) :
    rxAfter c (counterAdd c cnt m) (fun k => levels (m + k)) d (samplingRegs c cnt levels j q)
      = samplingRegs c cnt levels (j + 1) (levels (sampleTick c j - 1)) := by
  have hcmp : (samplingRegs c cnt levels j q).cmp = counterAdd c (counterAdd c cnt m) d := by
    rw [counterAdd_assoc, ← hsum]
    rfl
  have hleft : 2 ≤ (samplingRegs c cnt levels j q).cnt.toNat := by
    rw [samplingRegs, toNat_cells]
    omega
  have hcnt : BitVec.ofNat 4 (10 - j) - 1#4 = BitVec.ofNat 4 (10 - (j + 1)) := by
    interval_cases j <;> rfl
  rw [rxAfter_of_eq c _ d _ _ hcmp rfl rfl hleft hd hpos, show m + (d - 1) = sampleTick c j - 1 by omega]
  simp only [samplingRegs, counterAdd_assoc, hcnt, ← sampleTick_succ, sampledBits]

/-- Sample `j` is taken at its tick. -/
theorem rxAfter_samplingRegs_at (j : Nat) (hj : j ≤ 8) :
    ∃ q, rxAfter c cnt levels (sampleTick c j) (samplingRegs c cnt levels 0 p)
      = samplingRegs c cnt levels (j + 1) q := by
  obtain ⟨hhalf, hhalf_lt⟩ := valid_halfBit c hvalid
  obtain ⟨hbit, hbit_lt⟩ := valid_bitTime c hvalid
  induction j with
  | zero =>
    have hadd := rxAfter_add c cnt levels 0 (sampleTick c 0) (samplingRegs c cnt levels 0 p)
    rw [Nat.zero_add] at hadd
    exact ⟨_, hadd.trans (rxAfter_samplingRegs_sample c cnt levels 0 0 _ p hj (Nat.zero_add _).symm
      (by rw [sampleTick_zero]; omega) (by rwa [sampleTick_zero]))⟩
  | succ j ih =>
    obtain ⟨q, hq⟩ := ih (by omega)
    rw [sampleTick_succ, rxAfter_add, hq]
    exact ⟨_, rxAfter_samplingRegs_sample c cnt levels (j + 1) _ _ q hj (sampleTick_succ c j) hbit_lt
      (by omega)⟩

/-- Between two samples the registers stand but for `RXPREV`. -/
theorem rxAfter_samplingRegs_between (j n : Nat) (hj : j ≤ 9) (hlow : j = 0 ∨ sampleTick c (j - 1) ≤ n)
    (hhigh : n < sampleTick c j) :
    ∃ q, rxAfter c cnt levels n (samplingRegs c cnt levels 0 p) = samplingRegs c cnt levels j q := by
  obtain ⟨hhalf, hhalf_lt⟩ := valid_halfBit c hvalid
  obtain ⟨hbit, hbit_lt⟩ := valid_bitTime c hvalid
  cases j with
  | zero =>
    have hn : n < c.halfBit := by simpa using hhigh
    exact rxAfter_of_lt c cnt c.halfBit n levels _ (by simp [samplingRegs]) rfl (by omega) hn
  | succ j =>
    obtain ⟨m, rfl⟩ := Nat.exists_eq_add_of_le (hlow.resolve_left (by omega))
    obtain ⟨q, hq⟩ := rxAfter_samplingRegs_at c cnt levels p hvalid j (by omega)
    rw [rxAfter_add, Nat.add_sub_cancel, hq]
    refine rxAfter_of_lt c _ c.bitTime m _ _ ?_ rfl hbit_lt (by rw [sampleTick_succ, Nat.add_sub_cancel] at hhigh; omega)
    rw [counterAdd_assoc, ← sampleTick_succ]
    rfl

/-- Before the tick of the last sample no tick completes the reception. -/
theorem samplingRegs_not_completing (j n : Nat) (q : Level) (hj : j ≤ 9) (hlow : j = 0 ∨ sampleTick c (j - 1) ≤ n)
    (hhigh : n < sampleTick c j) (hn : n + 1 < sampleTick c 9) :
    ¬(counterAdd c cnt (n + 1) = (samplingRegs c cnt levels j q).cmp ∧ (samplingRegs c cnt levels j q).cnt = 1#4) := by
  rintro ⟨hmatch, hlast⟩
  have hj9 : j = 9 := by
    have := congrArg BitVec.toNat hlast
    rw [samplingRegs, toNat_cells] at this
    simp at this
    omega
  subst hj9
  obtain ⟨hbit, hbit_lt⟩ := valid_bitTime c hvalid
  have hnear : sampleTick c 9 - n < c.modulus := by
    have h8 := hlow.resolve_left (by omega)
    simp only [sampleTick] at *
    omega
  have hahead : counterAdd c cnt (sampleTick c 9) = counterAdd c (counterAdd c cnt n) (sampleTick c 9 - n) := by
    rw [counterAdd_assoc, Nat.add_sub_cancel' (by omega)]
  have hquiet := fires_before c true (counterAdd c cnt n) (sampleTick c 9 - n) 1 hnear (by omega)
  rw [← hahead, counterAdd_assoc, fires_false_iff] at hquiet
  exact hquiet ⟨rfl, hmatch⟩

end

/-! ### The frame in the state -/

/-- In the state `s` a frame has just started. -/
structure FrameStarted (s : State) : Prop where
  valid : s.cfg.valid = true
  regs : s.rx = rxStarted s.cfg s.cnt s.rx

section
variable {s : State} (hs : FrameStarted s) (inputs : Nat → TickInput)
include hs

/-- The receive registers between two samples. -/
theorem FrameStarted.rx_between (j n : Nat) (hj : j ≤ 9) (hlow : j = 0 ∨ sampleTick s.cfg (j - 1) ≤ n)
    (hhigh : n < sampleTick s.cfg j) :
    ∃ q, (afterTicks inputs n s).rx = samplingRegs s.cfg s.cnt (fun k => (inputs k).rxd) j q := by
  rw [afterTicks_rx, hs.regs, rxStarted_eq_samplingRegs]
  exact rxAfter_samplingRegs_between s.cfg s.cnt _ _ hs.valid j n hj hlow hhigh

theorem FrameStarted.rxCompletes_eq_false (n : Nat) (hn : n + 1 < sampleTick s.cfg 9) :
    rxCompletes (afterTicks inputs n s) = false := by
  obtain ⟨j, hj, hlow, hhigh⟩ := exists_samples_before s.cfg n (by omega)
  obtain ⟨q, hq⟩ := hs.rx_between inputs j n hj hlow hhigh
  have hnot := samplingRegs_not_completing s.cfg s.cnt (fun k => (inputs k).rxd) hs.valid j n q hj hlow hhigh hn
  rw [← Bool.not_eq_true, Bool.and_eq_true, fires_iff, rxDone_iff, nextCnt, afterTicks_cfg, afterTicks_nextCnt, hq]
  rintro ⟨⟨-, hmatch⟩, hlast⟩
  exact hnot ⟨hmatch, hlast⟩

/-- One tick before the last sample nine have been taken. -/
theorem FrameStarted.rx_before_last (n : Nat) (hn : n + 1 = sampleTick s.cfg 9) :
    ∃ q, (afterTicks inputs n s).rx = samplingRegs s.cfg s.cnt (fun k => (inputs k).rxd) 9 q := by
  obtain ⟨hbit, -⟩ := valid_bitTime s.cfg hs.valid
  refine hs.rx_between inputs 9 n le_rfl (.inr ?_) (by omega)
  simp only [sampleTick] at *
  omega

/-- The tick of the last sample completes the reception. -/
theorem FrameStarted.rxCompletes_eq_true (n : Nat) (hn : n + 1 = sampleTick s.cfg 9) :
    rxCompletes (afterTicks inputs n s) = true := by
  obtain ⟨q, hq⟩ := hs.rx_before_last inputs n hn
  rw [Bool.and_eq_true, fires_iff, rxDone_iff, nextCnt, afterTicks_cfg, afterTicks_nextCnt, hq, hn]
  exact ⟨⟨rfl, rfl⟩, rfl⟩

/-- The byte delivered by that tick: bit `i` is the sample `i + 1`, counted from 0 (30_encoding.md R95). -/
theorem FrameStarted.delivered (n : Nat) (hn : n + 1 = sampleTick s.cfg 9) (b : Level) (i : Nat) (hi : i < 8) :
    (receivedByte (shiftIn b (afterTicks inputs n s).rx.sr)).getLsbD i
      = (inputs (sampleTick s.cfg (i + 1) - 1)).rxd := by
  obtain ⟨q, hq⟩ := hs.rx_before_last inputs n hn
  have hbit := sampledBits_getLsbD s.cfg (fun k => (inputs k).rxd) (i + 1) 9 (by omega) (by omega)
  rw [receivedByte_getLsbD _ _ hi, shiftIn_getLsbD, if_neg (by omega), hq, ← hbit]
  exact congrArg _ (by omega)

/-- The engine is free after that tick unless the line falls in it (R187). -/
theorem FrameStarted.freed (n : Nat) (hn : n + 1 = sampleTick s.cfg 9)
    (hsteady : ¬((afterTicks inputs n s).rx.prev = true ∧ (inputs n).rxd = false)) :
    (afterTicks inputs (n + 1) s).rx.act = false ∧ (afterTicks inputs (n + 1) s).rx.ie = true ∧
      (afterTicks inputs (n + 1) s).rx.arm = false := by
  obtain ⟨q, hq⟩ := hs.rx_before_last inputs n hn
  rw [hq] at hsteady
  have hfire : fires (samplingRegs s.cfg s.cnt (fun k => (inputs k).rxd) 9 q).arm
      (samplingRegs s.cfg s.cnt (fun k => (inputs k).rxd) 9 q).cmp (counterAdd s.cfg s.cnt (n + 1)) = true := by
    rw [hn]
    exact fires_at _
  have hedge : edgeAccepted true q (inputs n).rxd = false := by
    rw [edgeAccepted_false_iff]
    exact fun ⟨_, h⟩ => hsteady h
  rw [afterTicks, ticked_rx, afterTicks_cfg, afterTicks_nextCnt, hq, rxTick_of_fire _ _ _ _ hfire,
    rxEvent_of_last s.cfg _ _ rfl, rxEdged_of_quiet _ _ _ _ hedge]
  exact ⟨rfl, rfl, rfl⟩

end

/-- Settles O30: the registers of the started frame, followed from sample to sample. -/
theorem receptionTimeline : Obligations.ReceptionTimeline := by
  intro s t inputs hvalid _ hrun ht
  rw [exec_rxEdge_of_ne_fatal s (by simp [hrun])] at ht
  injection ht with ht
  have hcfg : s.cfg = t.cfg := by rw [← ht]
  have htrun : t.mode = .run := by rw [← ht]; exact hrun
  have hstart : FrameStarted t := { valid := by rw [← ht]; exact hvalid, regs := by rw [← ht]; rfl }
  have hticks (n : Nat) : runTicks inputs n t = .next (afterTicks inputs n t) :=
    runTicks_eq_afterTicks inputs n t htrun
  rw [hcfg]
  refine ⟨?active, ?silent, ?last⟩
  case active =>
    intro n hn
    refine ⟨_, hticks n, ?_⟩
    obtain ⟨j, hj, hlow, hhigh⟩ := exists_samples_before t.cfg n hn
    obtain ⟨q, hq⟩ := hstart.rx_between inputs j n hj hlow hhigh
    refine ⟨by rw [hq]; rfl, by rw [hq]; rfl, ?_⟩
    intro i hi hlow' hhigh'
    obtain ⟨q', hq'⟩ := hstart.rx_between inputs i n hi hlow' hhigh'
    rw [hq']
    exact toNat_cells i
  case silent =>
    intro n hn
    refine ⟨_, _, hticks n, hticks (n + 1), ?_⟩
    have hcompletes := hstart.rxCompletes_eq_false inputs n hn
    have hwake : (afterTicks inputs (n + 1) t).wake = auxAccepted (afterTicks inputs n t) (inputs n).aux := by
      rw [afterTicks, ticked_wake, hcompletes, Bool.false_or]
    rw [hwake]
    refine ⟨edgeAccepted_iff .., ?_⟩
    rw [afterTicks, ticked_cmd, hcompletes, afterTicks_cfg]
    rfl
  case last =>
    intro n hn
    refine ⟨_, _, hticks n, hticks (n + 1), ?_, ?_, hstart.freed inputs n hn⟩
    · rw [afterTicks, ticked_wake, hstart.rxCompletes_eq_true inputs n hn, Bool.true_or]
    · intro hquiet i hi
      have haux : auxAccepted (afterTicks inputs n t) (inputs n).aux = false := (edgeAccepted_false_iff ..).2 hquiet
      rw [afterTicks, ticked_cmd, haux, hstart.rxCompletes_eq_true inputs n hn]
      exact hstart.delivered inputs n hn _ i hi

end Sys2Proof.Machine
end

section
/-! PROOFS. The loopback line (43_receive_engine.md R184): the transmit timeline is the input of the receive timeline. -/

namespace Sys2Proof.Machine

/-- The inputs of the ticks of a loopback line from the state `s` on: the receive line is `TXD` as it was before the tick
(20_memory.md R65), which depends on the transmit registers alone. -/
def loopInputs (s : State) (k : Nat) : TickInput where
  rxd := (txAfter s.cfg s.cnt k s.tx).txd
  aux := true
  other := false

theorem runLoopback_eq_afterTicks (n : Nat) (s : State) (hrun : s.mode = .run) :
    runLoopback n s = .next (afterTicks (loopInputs s) n s) := by
  induction n with
  | zero => rfl
  | succ k ih =>
    rw [runLoopback, ih, afterTicks, ← exec_tick_eq_ticked _ _ (by rw [afterTicks_mode, hrun])]
    simp only [afterTicks_tx, TickInput.tick, loopInputs]

/-- An idle receiver stands still while its line is at mark. -/
theorem rxAfter_idle (c : Config) (cnt n : Nat) (levels : Nat → Level) (x : RxRegs) (harm : x.arm = false)
    (hprev : x.prev = true) (hmark : ∀ k < n, levels k = true) : rxAfter c cnt levels n x = x := by
  induction n with
  | zero => rfl
  | succ k ih =>
    have hedge : edgeAccepted x.ie x.prev true = false := by simp [edgeAccepted, fallingEdge]
    rw [rxAfter, ih fun i hi => hmark i (by omega), hmark k (by omega),
      rxTick_of_no_fire _ _ _ _ (by simp [fires, harm]), rxEdged_of_quiet _ _ _ _ hedge, ← hprev]

/-- The first tick with the line at space starts a frame. -/
theorem rxTick_of_start (c : Config) (cnt : Nat) (x : RxRegs) (harm : x.arm = false) (hie : x.ie = true)
    (hprev : x.prev = true) : rxTick c cnt false x = { rxStarted c cnt x with prev := false } := by
  rw [rxTick_of_no_fire _ _ _ _ (by simp [fires, harm]),
    rxEdged_of_edge _ _ _ _ ((edgeAccepted_iff ..).2 ⟨hie, hprev, rfl⟩)]

section
variable {s : State} {v : Byte} (hvalid : s.cfg.valid = true) (htx : s.tx = frameRegs s.cfg s.cnt v 0)
include hvalid htx

/-- The level of the line while the frame of `v` is sent. -/
theorem loopInputs_mark (k : Nat) (hk : k < s.cfg.txFirstOffset) : (loopInputs s k).rxd = true := by
  rw [loopInputs, htx, txAfter_frameRegs_before s.cfg s.cnt v hvalid k hk]
  rfl

theorem loopInputs_cell (e m : Nat) (he : e ≤ 9) (hm : m < s.cfg.bitTime) :
    (loopInputs s (s.cfg.txFirstOffset + e * s.cfg.bitTime + m)).rxd = (framePattern v).getLsbD e := by
  rw [loopInputs, htx,
    txAfter_frameRegs_between s.cfg s.cnt v hvalid e _ he (by omega) (by rw [Nat.succ_mul]; omega)]
  rfl

/-- The start cell, which is on the line right after the first transmit event, starts a frame in the next tick. -/
theorem frameStarted_of_loopback (harm : s.rx.arm = false) (hie : s.rx.ie = true) (hprev : s.rx.prev = true) :
    FrameStarted (afterTicks (loopInputs s) (s.cfg.txFirstOffset + 1) s) where
  valid := by rw [afterTicks_cfg, hvalid]
  regs := by
    obtain ⟨hbit, -⟩ := valid_bitTime s.cfg hvalid
    have hstart : (loopInputs s s.cfg.txFirstOffset).rxd = false := by
      have h := loopInputs_cell hvalid htx 0 0 (by omega) (by omega)
      rw [framePattern_start] at h
      simpa using h
    rw [afterTicks_cfg, afterTicks_cnt_succ, afterTicks_rx, rxAfter,
      rxAfter_idle s.cfg s.cnt _ _ s.rx harm hprev fun k hk => loopInputs_mark hvalid htx k hk, hstart,
      rxTick_of_start s.cfg _ s.rx harm hie hprev]
    rfl

/-- The byte sent arrives: the reception starts one tick after the start cell is driven, and sample `i` falls into cell `i`. -/
theorem loopback_received (harm : s.rx.arm = false) (hie : s.rx.ie = true) (hprev : s.rx.prev = true) :
    (afterTicks (loopInputs s) (s.cfg.txFirstOffset + 9 * s.cfg.bitTime + 1 + s.cfg.halfBit) s).cmd = v ∧
      (afterTicks (loopInputs s) (s.cfg.txFirstOffset + 9 * s.cfg.bitTime + 1 + s.cfg.halfBit) s).wake = true := by
  have hstart := frameStarted_of_loopback hvalid htx harm hie hprev
  obtain ⟨hhalf, hhalf_lt⟩ := valid_halfBit s.cfg hvalid
  obtain ⟨n, hn⟩ : ∃ n, n + 1 = sampleTick s.cfg 9 := ⟨sampleTick s.cfg 9 - 1, by rw [sampleTick]; omega⟩
  have htotal : s.cfg.txFirstOffset + 9 * s.cfg.bitTime + 1 + s.cfg.halfBit = s.cfg.txFirstOffset + 1 + (n + 1) := by
    rw [hn, sampleTick]
    omega
  rw [← afterTicks_cfg (loopInputs s) (s.cfg.txFirstOffset + 1) s] at hn
  rw [htotal, afterTicks_add, afterTicks]
  constructor
  · apply BitVec.eq_of_getLsbD_eq
    intro i hi
    have hnoaux (u : State) : auxAccepted u true = false := by simp [edgeAccepted, fallingEdge]
    have hcell : s.cfg.txFirstOffset + 1 + (sampleTick s.cfg (i + 1) - 1)
        = s.cfg.txFirstOffset + (i + 1) * s.cfg.bitTime + s.cfg.halfBit := by
      rw [sampleTick]
      omega
    rw [ticked_cmd, show (loopInputs s (s.cfg.txFirstOffset + 1 + n)).aux = true from rfl, hnoaux,
      hstart.rxCompletes_eq_true _ n hn, if_neg Bool.false_ne_true, if_pos rfl, hstart.delivered _ n hn _ i hi,
      afterTicks_cfg, hcell, loopInputs_cell hvalid htx (i + 1) _ (by omega) hhalf_lt, framePattern_data v i hi]
  · rw [ticked_wake, hstart.rxCompletes_eq_true _ n hn, Bool.true_or]

end

/-- Settles O31: an accepted `SEND` loads the frame with the line at mark, and the idle engine is ready for its start cell. -/
theorem loopbackRoundTrip : Obligations.LoopbackRoundTrip := by
  intro s t v hinv hrun hfree hidle hprev ht
  obtain ⟨-, hmark⟩ := (hinv.transmit hrun).idle hfree
  have hreceive := hinv.receive hrun
  rw [exec_send_free s v hrun hfree, txLoaded_eq_frameRegs s.cfg s.cnt v s.tx hmark] at ht
  injection ht with ht
  have hcfg : s.cfg = t.cfg := by rw [← ht]
  have hrx : t.rx = s.rx := by rw [← ht]
  have htx : t.tx = frameRegs t.cfg t.cnt v 0 := by rw [← ht]
  have htrun : t.mode = .run := by rw [← ht]; exact hrun
  rw [hcfg]
  refine ⟨_, runLoopback_eq_afterTicks _ t htrun, loopback_received (hcfg ▸ hinv.config) htx ?_ ?_ ?_⟩ <;> rw [hrx]
  · rw [hreceive.arm, hidle]
  · rw [hreceive.ie, hidle]
    rfl
  · exact hprev

end Sys2Proof.Machine
end

section
/-! PROOFS. Decoding and encoding (30_encoding.md R90 to R103). -/

namespace Sys2Proof

/-! ### The words an encoder writes, read back field by field -/

theorem decode_stimulusWord (width : Nat) (tag : BitVec 8) (o : BitVec 24) :
    decode width (stimulusWord tag o) = decodeStimulus width (tag ++ o) := rfl

/-- The low byte of an operand (R102). -/
theorem extractLsb'_zeroExtend_byte (v : Byte) : (v.zeroExtend 24).extractLsb' 0 8 = v := by
  apply BitVec.eq_of_getLsbD_eq
  intro i hi
  simp [hi, show i < 24 by omega]

/-- A counter operand that fits decodes to its channel and number. -/
theorem decodeCounter_counterOperand (width : Nat) (c : Channel) (n : Nat) (mk : Channel → Nat → Instr)
    (h : counterFits width n = true) : decodeCounter width (counterOperand width c n) mk = some (mk c n) := by
  have hwidth : width ≤ 23 := by
    simp only [counterFits, Bool.and_eq_true, decide_eq_true_eq] at h
    exact h.1
  rw [decodeCounter, if_pos hwidth, channelOf_counterOperand width c n h, counterOf_counterOperand width c n h]

/-- The wire frame of a byte, read back (R91; log 19). -/
theorem decodePattern_frameCells (v : Byte) : decodePattern ((frameCells v).zeroExtend 16) = some (.frame v) := by
  revert v; decide +kernel

/-- The register pattern of a byte, read back (R92; log 19). -/
theorem decodePattern_framePattern (v : Byte) :
    decodePattern ((framePattern v).zeroExtend 16) = some (.txsrPattern v) := by
  revert v; decide +kernel

/-- Settles O46: the tag selects the row, and each operand field gives back what was written into it. -/
theorem decodeEncodeRoundTrip : Obligations.DecodeEncodeRoundTrip := by
  intro width i hwf
  cases i with
  | por | statusRead | cmdRead | cmdClear | txStep | rxEdge | auxEdge | otherIrq | readLine | clearInterruptFlags
  | getCalibratedTrim | hostWait | hostDispatch => rfl
  | send v =>
    simp only [encode, decode_stimulusWord, decodeStimulus, tagOf_append, operandOf_append, extractLsb'_zeroExtend_byte]
  | init b0 b1 b2 | tick b0 b1 b2 =>
    obtain ⟨h0, h1, h2⟩ := bitsOperand_bits b0 b1 b2
    simp only [encode, decode_stimulusWord, decodeStimulus, tagOf_append, operandOf_append, h0, h1, h2]
  | rxStep b | writeLine b =>
    obtain ⟨h0, -, -⟩ := bitsOperand_bits b false false
    simp only [encode, decode_stimulusWord, decodeStimulus, tagOf_append, operandOf_append, h0]
  | configureEdgeInterrupt e b1 b2 =>
    obtain ⟨h0, h1, h2⟩ := bitsOperand_bits e.bit b1 b2
    simp only [encode, decode_stimulusWord, decodeStimulus, tagOf_append, operandOf_append, h0, h1, h2, edgeOf_bit]
  | disable c | fire c =>
    have hc := channelOperand_bit c
    simp only [encode, decode_stimulusWord, decodeStimulus, tagOf_append, operandOf_append, hc]
  | scheduleNext c n | reschedule c n =>
    simp only [encode, decode_stimulusWord, decodeStimulus, tagOf_append, operandOf_append,
      decodeCounter_counterOperand width c n _ hwf]
  | frame v => exact decodePattern_frameCells v
  | txsrPattern v => exact decodePattern_framePattern v

/-! ### Which words decode -/

/-- The tags of the table of R102. -/
def operationTags : List (BitVec 8) :=
  [0x00#8, 0x01#8, 0x02#8, 0x03#8, 0x04#8, 0x05#8, 0x10#8, 0x20#8, 0x21#8, 0x22#8, 0x23#8, 0x30#8, 0x31#8, 0x32#8,
    0x33#8, 0x34#8, 0x40#8, 0x41#8, 0x42#8, 0x43#8, 0x44#8, 0x50#8, 0x51#8]

theorem tagOf_toNat (w : BitVec 32) : (tagOf w).toNat = w.toNat / 2 ^ 24 := by
  rw [tagOf, BitVec.extractLsb'_toNat, Nat.shiftRight_eq_div_pow]
  have := w.isLt
  omega

theorem decodeCounter_eq_some (width : Nat) (o : BitVec 24) (mk : Channel → Nat → Instr) (h : width ≤ 23) :
    decodeCounter width o mk = some (mk (channelOf (o.getLsbD width)) (counterOf width o)) := if_pos h

/-- The number read from a counter field fits it. -/
theorem counterFits_counterOf (width : Nat) (o : BitVec 24) (h : width ≤ 23) :
    counterFits width (counterOf width o) = true :=
  Bool.and_eq_true_iff.2 ⟨decide_eq_true h, decide_eq_true (Nat.mod_lt _ (Nat.two_pow_pos width))⟩

/-- A word decodes exactly when the table has its tag, whatever its operand. -/
theorem decodeStimulus_isSome_iff (width : Nat) (w : BitVec 32) (h : width ≤ 23) :
    (decodeStimulus width w).isSome = true ↔ tagOf w ∈ operationTags := by
  unfold decodeStimulus
  split
  case h_24 => simp_all [operationTags]
  all_goals
    rename_i htag
    simp [htag, operationTags, decodeCounter_eq_some _ _ _ h]

theorem wellFormed_of_decodeStimulus (width : Nat) (w : BitVec 32) (h : width ≤ 23) (i : Instr)
    (hi : decodeStimulus width w = some i) : i.wellFormed width = true := by
  unfold decodeStimulus at hi
  split at hi
  case h_8 | h_9 =>
    rw [decodeCounter_eq_some _ _ _ h, Option.some.injEq] at hi
    rw [← hi]
    exact counterFits_counterOf width (operandOf w) h
  case h_24 => cases hi
  all_goals
    rw [Option.some.injEq] at hi
    rw [← hi]
    rfl

/-- Settles O47: the tag decides, and only a counter operand has a range to keep. -/
theorem decodeAcceptsExactlyTheTags : Obligations.DecodeAcceptsExactlyTheTags := by
  intro width w hwidth
  refine ⟨?tags, wellFormed_of_decodeStimulus width w hwidth⟩
  case tags =>
    have hmem : tagOf w ∈ operationTags ↔ (tagOf w).toNat ∈ operationTags.map BitVec.toNat :=
      (List.mem_map_of_injective (fun _ _ => BitVec.eq_of_toNat_eq)).symm
    calc (decode width (.stimulus w)).isSome = true
      _ ↔ tagOf w ∈ operationTags := decodeStimulus_isSome_iff width w hwidth
      _ ↔ w.toNat / 2 ^ 24 ∈ operationTags.map BitVec.toNat := by rw [hmem, tagOf_toNat]

/-- Settles O45. -/
theorem exampleWordsDecode : Obligations.ExampleWordsDecode := by
  unfold Obligations.ExampleWordsDecode
  decide

end Sys2Proof
end

section
/-! PROOFS. What every operation keeps: completion, the parameters, the script, `MODE`, `CNT` and the widths of the
counters, read off `nextState` operation by operation. -/

namespace Sys2Proof.Machine

/-! ### The branches of the shared next states -/

/-- An injected step is refused in `FATAL` and runs in the other modes. -/
theorem unlessFatal_induction {P : State → Prop} {s t : State} (refused : s.mode = .fatal → P (silently s))
    (runs : s.mode ≠ .fatal → P (silently t)) : P (unlessFatal s t) := by
  unfold unlessFatal
  split
  · next h => exact refused h
  · next h => exact runs h

/-- The state of the host after it has read the command `CMD` and acted on it (44_command_dispatcher.md R201). -/
def readState (s : State) : State :=
  { s with
    host := { s.host with command := some s.cmd, index := 0,
                          led := s.host.led ^^ ((lookup s.cfg s.cmd).action == .toggleLed) }
    result := .cmd s.cmd }

/-- The state after the next response byte `b` has been accepted. -/
def sentState (b : Byte) (s : State) : State :=
  { s with tx := txLoaded s.cfg s.cnt b s.tx, host.index := s.host.index + 1, result := .accepted true }

/-- The state after the end of the pass of the command `v`. -/
def clearedState (v : Byte) (s : State) : State :=
  { s with
    cmd := s.cfg.cmdIdle
    host := { s.host with
      command := none, index := 0,
      heldWake := s.host.heldWake && (lookup s.cfg v).stayAwake
      mode := if (lookup s.cfg v).stayAwake || s.host.heldWake then s.host.mode else .waiting }
    result := .silent }

theorem dispatched_read (s : State) (hc : s.host.command = none) : dispatched s = readState s := by
  rw [dispatched, hc]
  rfl

theorem dispatched_busy (s : State) (v b : Byte) (hc : s.host.command = some v)
    (hb : (lookup s.cfg v).response[s.host.index]? = some b) (ht : s.tx.busy = true) :
    dispatched s = { s with result := .accepted false } := by
  simp [dispatched, hc, hb, ht]

theorem dispatched_send (s : State) (v b : Byte) (hc : s.host.command = some v)
    (hb : (lookup s.cfg v).response[s.host.index]? = some b) (ht : s.tx.busy = false) :
    dispatched s = sentState b s := by
  simp [dispatched, hc, hb, ht, sentState]

theorem dispatched_clear (s : State) (v : Byte) (hc : s.host.command = some v)
    (hb : (lookup s.cfg v).response[s.host.index]? = none) : dispatched s = clearedState v s := by
  simp [dispatched, hc, hb, clearedState]

/-- The four branches of the host's next operation. -/
theorem dispatched_induction {P : State → Prop} (s : State) (read : s.host.command = none → P (readState s))
    (busy : s.tx.busy = true → P { s with result := .accepted false })
    (send : ∀ v b, s.host.command = some v → (lookup s.cfg v).response[s.host.index]? = some b → s.tx.busy = false →
      P (sentState b s))
    (clear : ∀ v, s.host.command = some v → P (clearedState v s)) : P (dispatched s) := by
  cases hc : s.host.command with
  | none => rw [dispatched_read s hc]; exact read hc
  | some v =>
    cases hb : (lookup s.cfg v).response[s.host.index]? with
    | none => rw [dispatched_clear s v hc hb]; exact clear v hc
    | some b =>
      cases ht : s.tx.busy with
      | true => rw [dispatched_busy s v b hc hb ht]; exact busy ht
      | false => rw [dispatched_send s v b hc hb ht]; exact send v b hc hb ht

/-- An injected `RX_STEP`, field by field: only the completing one writes more than the receive registers. -/
theorem rxStepped_eq (b : Level) (s : State) : rxStepped b s = { s with
    rx := rxEvent s.cfg b s.rx
    cmd := if rxDone s.rx.cnt then receivedByte (shiftIn b s.rx.sr) else s.cmd
    wake := rxDone s.rx.cnt || s.wake
    host := hostHears s.cfg (rxDone s.rx.cnt) s.host } := by
  cases h : rxDone s.rx.cnt <;> simp [rxStepped, h, hostHears_false]

theorem configureEdgeInterrupt_eq (e : Edge) (r a : Bool) (s : State) :
    configureEdgeInterrupt e r a s =
      { s with rx.ie := edgeConfigAdmitted e r a || s.rx.ie, auxIe := edgeConfigAdmitted e r a || s.auxIe } := by
  cases h : edgeConfigAdmitted e r a <;> simp [configureEdgeInterrupt, h]

/-! ### Completion, parameters, script (20_memory.md R66, 60_exceptions.md R244) -/

/-- The parameters, `MODE`, `CNT` and the script are the same. -/
structure SameControl (s t : State) : Prop where
  cfg : t.cfg = s.cfg
  mode : t.mode = s.mode
  cnt : t.cnt = s.cnt
  script : t.script = s.script

/-- No operation but `POR`, `INIT` and `TICK` writes `MODE` or `CNT`. -/
theorem nextState_sameControl (i : Instr) (s : State) (hpor : i ≠ .por) (hinit : ∀ p r a, i ≠ .init p r a)
    (htick : ∀ r a o, i ≠ .tick r a o) : SameControl s (nextState i s) := by
  cases i with
  | por => exact absurd rfl hpor
  | init p r a => exact absurd rfl (hinit p r a)
  | tick r a o => exact absurd rfl (htick r a o)
  | send | statusRead | cmdRead | cmdClear | hostWait =>
    rw [nextState]
    split_ifs <;> exact ⟨rfl, rfl, rfl, rfl⟩
  | scheduleNext c | reschedule c | disable c =>
    cases c <;> exact unlessFatal_induction (fun _ => ⟨rfl, rfl, rfl, rfl⟩) fun _ => ⟨rfl, rfl, rfl, rfl⟩
  | fire c =>
    cases c with
    | tx => exact unlessFatal_induction (fun _ => ⟨rfl, rfl, rfl, rfl⟩) fun _ => ⟨rfl, rfl, rfl, rfl⟩
    | rx =>
      refine unlessFatal_induction (fun _ => ⟨rfl, rfl, rfl, rfl⟩) fun _ => ?_
      rw [rxStepped_eq]
      exact ⟨rfl, rfl, rfl, rfl⟩
  | rxStep b =>
    refine unlessFatal_induction (fun _ => ⟨rfl, rfl, rfl, rfl⟩) fun _ => ?_
    rw [rxStepped_eq]
    exact ⟨rfl, rfl, rfl, rfl⟩
  | configureEdgeInterrupt e r a =>
    refine unlessFatal_induction (fun _ => ⟨rfl, rfl, rfl, rfl⟩) fun _ => ?_
    rw [configureEdgeInterrupt_eq]
    exact ⟨rfl, rfl, rfl, rfl⟩
  | txStep | rxEdge | auxEdge | writeLine =>
    exact unlessFatal_induction (fun _ => ⟨rfl, rfl, rfl, rfl⟩) fun _ => ⟨rfl, rfl, rfl, rfl⟩
  | otherIrq | readLine | clearInterruptFlags | getCalibratedTrim | frame | txsrPattern => exact ⟨rfl, rfl, rfl, rfl⟩
  | hostDispatch =>
    rw [nextState]
    split_ifs
    · exact dispatched_induction s (fun _ => ⟨rfl, rfl, rfl, rfl⟩) (fun _ => ⟨rfl, rfl, rfl, rfl⟩)
        (fun _ _ _ _ _ => ⟨rfl, rfl, rfl, rfl⟩) fun _ _ => ⟨rfl, rfl, rfl, rfl⟩
    · exact ⟨rfl, rfl, rfl, rfl⟩

theorem nextState_init_some (r a : Level) (s : State) (h : s.mode = .uninit) :
    nextState (.init true r a) s = silently (startUp r a s) := by
  simp [nextState, h]

theorem nextState_init_none (r a : Level) (s : State) (h : s.mode = .uninit) :
    nextState (.init false r a) s = silently (noPulse (raiseFatal s)) := by
  simp [nextState, h]

theorem nextState_init_refused (p : Bool) (r a : Level) (s : State) (h : s.mode ≠ .uninit) :
    nextState (.init p r a) s = silently s := by
  simp [nextState, h]

theorem nextState_send_free (v : Byte) (s : State) (hrun : s.mode = .run) (hfree : s.tx.busy = false) :
    nextState (.send v) s = { s with tx := txLoaded s.cfg s.cnt v s.tx, result := .accepted true } := by
  simp [nextState, hrun, hfree]

theorem nextState_send_busy (v : Byte) (s : State) (hrun : s.mode = .run) (hbusy : s.tx.busy = true) :
    nextState (.send v) s = { s with result := .accepted false } := by
  simp [nextState, hrun, hbusy]

theorem nextState_send_off (v : Byte) (s : State) (hoff : s.mode ≠ .run) : nextState (.send v) s = silently s := by
  simp [nextState, hoff]

theorem nextState_tick_run (r a : Level) (o : Bool) (s : State) (h : s.mode = .run) :
    nextState (.tick r a o) s = ticked ⟨r, a, o⟩ s := by
  rw [nextState, if_pos h]
  rfl

theorem nextState_tick_off (r a : Level) (o : Bool) (s : State) (h : s.mode ≠ .run) :
    nextState (.tick r a o) s = { s with wake := false, result := .silent } := by
  simp [nextState, h]

theorem ticked_script (x : TickInput) (s : State) : (ticked x s).script = s.script := by
  rw [ticked, tick_eq]

theorem nextState_cfg_script (i : Instr) (s : State) :
    (nextState i s).cfg = s.cfg ∧ (nextState i s).script = s.script := by
  cases i with
  | por => exact ⟨rfl, rfl⟩
  | init p r a =>
    by_cases hu : s.mode = .uninit
    · cases p with
      | true => rw [nextState_init_some r a s hu]; exact ⟨rfl, rfl⟩
      | false => rw [nextState_init_none r a s hu]; exact ⟨rfl, rfl⟩
    · rw [nextState_init_refused p r a s hu]; exact ⟨rfl, rfl⟩
  | tick r a o =>
    by_cases hrun : s.mode = .run
    · rw [nextState_tick_run r a o s hrun]; exact ⟨ticked_cfg _ s, ticked_script _ s⟩
    · rw [nextState_tick_off r a o s hrun]; exact ⟨rfl, rfl⟩
  | _ =>
    exact ⟨(nextState_sameControl _ s (by nofun) (by nofun) (by nofun)).cfg,
      (nextState_sameControl _ s (by nofun) (by nofun) (by nofun)).script⟩

/-- Settles O49. -/
theorem everyOperationCompletes : Obligations.EveryOperationCompletes := by
  intro i s hpattern
  exact ⟨_, exec_eq_nextState i s hpattern, nextState_cfg_script i s⟩

/-! ### `MODE` (10_state.md R35) -/

theorem nextState_tick_mode (r a : Level) (o : Bool) (s : State) : (nextState (.tick r a o) s).mode = s.mode := by
  by_cases hrun : s.mode = .run
  · rw [nextState_tick_run r a o s hrun, ticked_mode]
  · rw [nextState_tick_off r a o s hrun]

/-- Settles O6: only `POR` and the two accepted branches of `INIT` write `MODE`. -/
theorem modeChangesOnlyByPorAndInit : Obligations.ModeChangesOnlyByPorAndInit := by
  intro i s t ht hchange
  obtain ⟨-, rfl⟩ := exec_next i s t ht
  cases i with
  | por => exact .inl ⟨rfl, rfl⟩
  | init p r a =>
    by_cases hu : s.mode = .uninit
    · refine .inr ⟨hu, p, r, a, rfl, ?_⟩
      cases p with
      | true => rw [nextState_init_some r a s hu]; rfl
      | false => rw [nextState_init_none r a s hu]; rfl
    · rw [nextState_init_refused p r a s hu] at hchange
      exact absurd rfl hchange
  | tick r a o => exact absurd (nextState_tick_mode r a o s) hchange
  | _ => exact absurd (nextState_sameControl _ s (by nofun) (by nofun) (by nofun)).mode hchange

/-! ### `CNT` (10_state.md R21) -/

/-- Settles O9: besides `TICK` only the two operations that leave `CNT` unspecified write it. -/
theorem onlyTickAdvancesTheCounter : Obligations.OnlyTickAdvancesTheCounter := by
  constructor
  · intro s r a o hrun
    exact ⟨_, exec_tick_eq_ticked ⟨r, a, o⟩ s hrun, ticked_cnt _ s⟩
  · intro i s t ht hpor hinit htick
    obtain ⟨-, rfl⟩ := exec_next i s t ht
    cases i with
    | por => exact absurd rfl hpor
    | init p r a =>
      by_cases hu : s.mode = .uninit
      · cases p with
        | true => rw [nextState_init_some r a s hu]; rfl
        | false => exact absurd ⟨hu, r, a, rfl⟩ hinit
      · rw [nextState_init_refused p r a s hu]
    | tick r a o => exact absurd rfl (htick r a o)
    | _ => exact (nextState_sameControl _ s (by nofun) (by nofun) (by nofun)).cnt

/-! ### The widths of the counters (10_state.md R21 to R23) -/

theorem txEvent_cmp (c : Config) (x : TxRegs) : (txEvent c x).cmp = counterAdd c x.cmp c.bitTime := by
  cases h : txDone x.cnt <;> simp [txEvent, h]

theorem txEvent_cmp_lt (c : Config) (x : TxRegs) : (txEvent c x).cmp < c.modulus := by
  rw [txEvent_cmp]
  exact counterAdd_lt ..

theorem txTick_cmp_lt (c : Config) (cnt : Nat) (x : TxRegs) (hx : x.cmp < c.modulus) :
    (txTick c cnt x).cmp < c.modulus := by
  unfold txTick
  split
  · exact txEvent_cmp_lt c x
  · exact hx

theorem rxEvent_cmp_lt (c : Config) (b : Level) (x : RxRegs) (hx : x.cmp < c.modulus) :
    (rxEvent c b x).cmp < c.modulus := by
  unfold rxEvent
  split_ifs
  · exact hx
  · exact counterAdd_lt ..
  · exact counterAdd_lt ..

theorem rxEdged_cmp_lt (c : Config) (cnt : Nat) (r : Level) (y : RxRegs) (hy : y.cmp < c.modulus) :
    (rxEdged c cnt r y).cmp < c.modulus := by
  cases h : edgeAccepted y.ie y.prev r with
  | true => rw [rxEdged_of_edge c cnt r y h]; exact counterAdd_lt ..
  | false => rw [rxEdged_of_quiet c cnt r y h]; exact hy

theorem rxTick_cmp_lt (c : Config) (cnt : Nat) (r : Level) (x : RxRegs) (hx : x.cmp < c.modulus) :
    (rxTick c cnt r x).cmp < c.modulus := by
  cases h : fires x.arm x.cmp cnt with
  | true =>
    rw [rxTick_of_fire c cnt r x h]
    exact rxEdged_cmp_lt c cnt r _ (rxEvent_cmp_lt c r { x with arm := false } hx)
  | false => rw [rxTick_of_no_fire c cnt r x h]; exact rxEdged_cmp_lt c cnt r x hx

theorem countersInRange_ticked (x : TickInput) (s : State) (h : CountersInRange s) : CountersInRange (ticked x s) where
  cnt := by rw [ticked_cnt, ticked_cfg]; exact counterAdd_lt ..
  tx := by rw [ticked_tx, ticked_cfg]; exact txTick_cmp_lt _ _ _ h.tx
  rx := by rw [ticked_rx, ticked_cfg]; exact rxTick_cmp_lt _ _ _ _ h.rx

theorem countersInRange_unspecify (s : State) : CountersInRange (unspecify s) :=
  ⟨Nat.mod_lt _ (modulus_pos s.cfg), Nat.mod_lt _ (modulus_pos s.cfg), Nat.mod_lt _ (modulus_pos s.cfg)⟩

theorem countersInRange_powerOn (s : State) : CountersInRange (silently (powerOn s)) := by
  obtain ⟨hcnt, htx, hrx⟩ := countersInRange_unspecify s
  exact ⟨hcnt, htx, hrx⟩

theorem countersInRange_raiseFatal (s : State) : CountersInRange (silently (noPulse (raiseFatal s))) := by
  obtain ⟨hcnt, htx, hrx⟩ := countersInRange_unspecify s
  exact ⟨hcnt, htx, hrx⟩

theorem countersInRange_armAt (c : Channel) (a b : Nat) (s : State) (h : CountersInRange s) :
    CountersInRange (armAt c (counterAdd s.cfg a b) s) := by
  obtain ⟨hcnt, htx, hrx⟩ := h
  cases c with
  | tx => exact ⟨hcnt, counterAdd_lt .., hrx⟩
  | rx => exact ⟨hcnt, htx, counterAdd_lt ..⟩

theorem countersInRange_rxStepped (b : Level) (s : State) (h : CountersInRange s) : CountersInRange (rxStepped b s) := by
  obtain ⟨hcnt, htx, hrx⟩ := h
  rw [rxStepped_eq]
  exact ⟨hcnt, htx, rxEvent_cmp_lt s.cfg b s.rx hrx⟩

theorem countersInRange_dispatched (s : State) (h : CountersInRange s) : CountersInRange (dispatched s) := by
  obtain ⟨hcnt, htx, hrx⟩ := h
  exact dispatched_induction s (fun _ => ⟨hcnt, htx, hrx⟩) (fun _ => ⟨hcnt, htx, hrx⟩)
    (fun _ _ _ _ _ => ⟨hcnt, counterAdd_lt .., hrx⟩) fun _ _ => ⟨hcnt, htx, hrx⟩

/-- Settles O52: a written counter is a sum or a draw modulo `2^CNT_W`. -/
theorem countersKeepTheirWidth : Obligations.CountersKeepTheirWidth := by
  intro i s t h ht
  obtain ⟨-, rfl⟩ := exec_next i s t ht
  have hsilent : CountersInRange (silently s) := ⟨h.cnt, h.tx, h.rx⟩
  have hinjected {u : State} (hu : CountersInRange u) : CountersInRange (unlessFatal s u) :=
    unlessFatal_induction (fun _ => hsilent) fun _ => ⟨hu.cnt, hu.tx, hu.rx⟩
  cases i with
  | por => exact countersInRange_powerOn s
  | init p r a =>
    by_cases hu : s.mode = .uninit
    · cases p with
      | true => rw [nextState_init_some r a s hu]; exact ⟨h.cnt, h.tx, h.rx⟩
      | false => rw [nextState_init_none r a s hu]; exact countersInRange_raiseFatal s
    · rw [nextState_init_refused p r a s hu]; exact hsilent
  | tick r a o =>
    by_cases hrun : s.mode = .run
    · rw [nextState_tick_run r a o s hrun]; exact countersInRange_ticked _ s h
    · rw [nextState_tick_off r a o s hrun]; exact ⟨h.cnt, h.tx, h.rx⟩
  | send v =>
    rw [nextState]
    split_ifs
    · exact ⟨h.cnt, h.tx, h.rx⟩
    · exact ⟨h.cnt, counterAdd_lt .., h.rx⟩
    · exact hsilent
  | statusRead | cmdRead | cmdClear | hostWait =>
    rw [nextState]
    split_ifs <;> exact ⟨h.cnt, h.tx, h.rx⟩
  | otherIrq | readLine | clearInterruptFlags | getCalibratedTrim | frame | txsrPattern => exact ⟨h.cnt, h.tx, h.rx⟩
  | scheduleNext c n => exact hinjected (countersInRange_armAt c s.cnt n s h)
  | reschedule c n => exact hinjected (countersInRange_armAt c (compareOf c s) n s h)
  | disable c => cases c <;> exact hinjected ⟨h.cnt, h.tx, h.rx⟩
  | fire c =>
    cases c with
    | tx => exact hinjected ⟨h.cnt, txEvent_cmp_lt s.cfg s.tx, h.rx⟩
    | rx => exact hinjected (countersInRange_rxStepped _ _ ⟨h.cnt, h.tx, h.rx⟩)
  | txStep => exact hinjected ⟨h.cnt, txEvent_cmp_lt s.cfg s.tx, h.rx⟩
  | rxStep b => exact hinjected (countersInRange_rxStepped b s h)
  | rxEdge => exact hinjected ⟨h.cnt, h.tx, counterAdd_lt ..⟩
  | auxEdge | writeLine => exact hinjected ⟨h.cnt, h.tx, h.rx⟩
  | configureEdgeInterrupt e r a =>
    refine hinjected ?_
    rw [configureEdgeInterrupt_eq]
    exact ⟨h.cnt, h.tx, h.rx⟩
  | hostDispatch =>
    rw [nextState]
    split_ifs
    · exact countersInRange_dispatched s h
    · exact hsilent

end Sys2Proof.Machine
end

section
/-! PROOFS. The invariant of 10_state.md R39: it holds at reset, every operation from outside keeps it, and in it a busy
slot frees in bounded time (20_memory.md R74). -/

namespace Sys2Proof.Machine

/-! ### The transmit items -/

/-- The registers of a free transmit slot. -/
theorem transmitInv_of_idle (c : Config) (cnt : Nat) (x : TxRegs) (harm : x.arm = false) (hbusy : x.busy = false)
    (hcnt : x.cnt = 0#4) (hmark : x.txd = true) : TransmitInv c cnt x where
  arm := by rw [harm, hbusy]
  idle := fun _ => ⟨hcnt, hmark⟩
  count := fun h => by simp [hbusy] at h
  cells := fun h => by simp [hbusy] at h
  ahead := fun h => by simp [harm] at h

/-- A frame just loaded: the line at mark, the first event `TX_FIRST_OFFSET` ahead. -/
theorem transmitInv_txLoaded (c : Config) (cnt : Nat) (v : Byte) (x : TxRegs) (hvalid : c.valid = true)
    (hcnt : cnt < c.modulus) (hmark : x.txd = true) : TransmitInv c cnt (txLoaded c cnt v x) where
  arm := rfl
  idle := nofun
  count := fun _ => by simp [txLoaded]
  cells := fun _ => ⟨v, by simp [txLoaded], by simp [txLoaded, hmark]⟩
  ahead := fun _ => by
    obtain ⟨hfirst, hfirst_lt⟩ := valid_txFirstOffset c hvalid
    simp [txLoaded, ticksAhead_counterAdd c cnt _ hcnt hfirst_lt, hfirst]

/-- The bits of the frame that are left after `k` cells. -/
theorem framePattern_shift_getLsbD (v : Byte) (k : Nat) :
    nextCell (framePattern v >>> k) = (framePattern v).getLsbD k := by
  simp [nextCell]

/-- A transmit event with cells left, in the tick that reaches the compare value. -/
theorem transmitInv_txEvent_of_cells (c : Config) (x : TxRegs) (hvalid : c.valid = true) (hcmp : x.cmp < c.modulus)
    (hbusy : x.busy = true) (hcells : x.cnt ≠ 0#4) (hcount : x.cnt.toNat ≤ 10)
    (hframe : ∃ v : Byte, x.sr = framePattern v >>> (10 - x.cnt.toNat)) : TransmitInv c x.cmp (txEvent c x) := by
  obtain ⟨v, hsr⟩ := hframe
  have hpos : x.cnt.toNat ≠ 0 := fun h => hcells (BitVec.eq_of_toNat_eq h)
  have hleft : (x.cnt - 1#4).toNat = x.cnt.toNat - 1 := toNat_sub_one x.cnt hcells
  have hnext : x.cnt - 1#4 ≠ 10#4 := by
    intro h
    rw [h] at hleft
    simp at hleft
    omega
  rw [txEvent_of_cells c x hcells]
  constructor
  case arm => exact hbusy.symm
  case idle => exact fun h => by simp [hbusy] at h
  case count => exact fun _ => by simp only [hleft]; omega
  case cells =>
    intro _
    refine ⟨v, ?_, ?_⟩
    · simp only [hleft, hsr, shiftOut, ← BitVec.shiftRight_add]
      congr 1
      omega
    · simp only [hleft, hsr, framePattern_shift_getLsbD, if_neg hnext]
      congr 1
      omega
  case ahead =>
    intro _
    obtain ⟨hbit, hbit_lt⟩ := valid_bitTime c hvalid
    simp only [ticksAhead_counterAdd c x.cmp _ hcmp hbit_lt, if_neg hnext]
    omega

/-- A tick keeps the transmit items. -/
theorem transmitInv_txTick (c : Config) (cnt : Nat) (x : TxRegs) (hvalid : c.valid = true) (hcnt : cnt < c.modulus)
    (hcmp : x.cmp < c.modulus) (h : TransmitInv c cnt x) :
    TransmitInv c (counterAdd c cnt 1) (txTick c (counterAdd c cnt 1) x) := by
  cases hbusy : x.busy with
  | false =>
    obtain ⟨hzero, hmark⟩ := h.idle hbusy
    have harm : x.arm = false := by rw [h.arm, hbusy]
    rw [txTick, harm, fires, Bool.false_and, if_neg Bool.false_ne_true]
    exact transmitInv_of_idle c _ x harm hbusy hzero hmark
  | true =>
    have harm : x.arm = true := by rw [h.arm, hbusy]
    obtain ⟨hahead, hbound⟩ := h.ahead harm
    obtain ⟨hnearer, hmatch⟩ := ticksAhead_tick c x.cmp cnt hcmp hcnt hahead
    obtain ⟨v, hsr, htxd⟩ := h.cells hbusy
    cases hfire : fires x.arm x.cmp (counterAdd c cnt 1) with
    | false =>
      have hnot : ticksAhead c x.cmp cnt ≠ 1 := by
        rw [← hmatch.ne]
        exact fun heq => ((fires_false_iff ..).1 hfire) ⟨harm, heq⟩
      rw [txTick, hfire, if_neg Bool.false_ne_true]
      exact { h with ahead := fun _ => by rw [hnearer]; omega }
    | true =>
      obtain ⟨-, hreached⟩ := (fires_iff ..).1 hfire
      rw [txTick, hfire, if_pos rfl, hreached]
      by_cases hdone : x.cnt = 0#4
      · have hstop : x.txd = true := by
          rw [htxd, hdone]
          exact framePattern_stop v
        rw [txEvent_of_done c x hdone]
        exact transmitInv_of_idle c _ _ rfl rfl hdone hstop
      · exact transmitInv_txEvent_of_cells c x hvalid hcmp hbusy hdone (h.count hbusy) ⟨v, hsr⟩

/-! ### The receive items -/

theorem receiveInv_of_idle (c : Config) (cnt : Nat) (x : RxRegs) (harm : x.arm = false) (hact : x.act = false)
    (hie : x.ie = true) (hcnt : x.cnt = 0#4) : ReceiveInv c cnt x where
  arm := by rw [harm, hact]
  ie := by rw [hie, hact]; rfl
  idle := fun _ => hcnt
  count := fun h => by simp [hact] at h
  ahead := fun h => by simp [harm] at h

/-- A frame just started: the first sample `HALF_BIT` ahead. -/
theorem receiveInv_rxStarted (c : Config) (cnt : Nat) (x : RxRegs) (hvalid : c.valid = true) (hcnt : cnt < c.modulus) :
    ReceiveInv c cnt (rxStarted c cnt x) where
  arm := rfl
  ie := rfl
  idle := nofun
  count := fun _ => by simp [rxStarted]
  ahead := fun _ => by
    obtain ⟨hhalf, hhalf_lt⟩ := valid_halfBit c hvalid
    obtain ⟨-, hbit_lt⟩ := valid_bitTime c hvalid
    simp only [rxStarted, ticksAhead_counterAdd c cnt _ hcnt (by omega : c.halfBit < c.modulus)]
    omega

theorem ReceiveInv.with_prev {c : Config} {cnt : Nat} {x : RxRegs} (h : ReceiveInv c cnt x) (p : Level) :
    ReceiveInv c cnt { x with prev := p } :=
  ⟨h.arm, h.ie, h.idle, h.count, h.ahead⟩

theorem receiveInv_rxEdged (c : Config) (cnt : Nat) (r : Level) (y : RxRegs) (hvalid : c.valid = true)
    (hcnt : cnt < c.modulus) (hy : ReceiveInv c cnt y) : ReceiveInv c cnt (rxEdged c cnt r y) := by
  cases h : edgeAccepted y.ie y.prev r with
  | true =>
    rw [rxEdged_of_edge c cnt r y h]
    exact (receiveInv_rxStarted c cnt y hvalid hcnt).with_prev r
  | false => rw [rxEdged_of_quiet c cnt r y h]; exact hy.with_prev r

/-- A receive event, in the tick that reaches the compare value. -/
theorem receiveInv_rxEvent (c : Config) (b : Level) (x : RxRegs) (hvalid : c.valid = true) (hcmp : x.cmp < c.modulus)
    (hact : x.act = true) (hie : x.ie = false) (hcount : 1 ≤ x.cnt.toNat ∧ x.cnt.toNat ≤ 10) :
    ReceiveInv c x.cmp (rxEvent c b x) := by
  obtain ⟨hbit, hbit_lt⟩ := valid_bitTime c hvalid
  by_cases hlast : x.cnt = 1#4
  · rw [rxEvent_of_last c b x hlast]
    exact receiveInv_of_idle c _ _ rfl rfl rfl rfl
  · have hsamples : 2 ≤ x.cnt.toNat := by
      have : x.cnt.toNat ≠ 1 := fun h => hlast (BitVec.eq_of_toNat_eq h)
      omega
    have hleft : (x.cnt - 1#4).toNat = x.cnt.toNat - 1 := toNat_sub_one x.cnt (by rintro h; simp [h] at hsamples)
    rw [rxEvent_of_samples c b x hsamples]
    constructor
    case arm => exact hact.symm
    case ie => simp [hact, hie]
    case idle => exact fun h => by simp [hact] at h
    case count => exact fun _ => by simp only [hleft]; omega
    case ahead =>
      intro _
      simp only [ticksAhead_counterAdd c x.cmp _ hcmp hbit_lt]
      omega

/-- A tick keeps the receive items. -/
theorem receiveInv_rxTick (c : Config) (cnt : Nat) (r : Level) (x : RxRegs) (hvalid : c.valid = true)
    (hcnt : cnt < c.modulus) (hcmp : x.cmp < c.modulus) (h : ReceiveInv c cnt x) :
    ReceiveInv c (counterAdd c cnt 1) (rxTick c (counterAdd c cnt 1) r x) := by
  cases hfire : fires x.arm x.cmp (counterAdd c cnt 1) with
  | false =>
    rw [rxTick_of_no_fire _ _ _ _ hfire]
    refine receiveInv_rxEdged c _ r x hvalid (counterAdd_lt ..) { h with ahead := fun harm => ?_ }
    obtain ⟨hahead, hbound⟩ := h.ahead harm
    obtain ⟨hnearer, hmatch⟩ := ticksAhead_tick c x.cmp cnt hcmp hcnt hahead
    have hnot : ticksAhead c x.cmp cnt ≠ 1 := by
      rw [← hmatch.ne]
      exact fun heq => ((fires_false_iff ..).1 hfire) ⟨harm, heq⟩
    rw [hnearer]
    omega
  | true =>
    obtain ⟨harm, hreached⟩ := (fires_iff ..).1 hfire
    have hact : x.act = true := by rw [← h.arm, harm]
    have hie : x.ie = false := by rw [h.ie, hact]; rfl
    rw [rxTick_of_fire _ _ _ _ hfire]
    refine receiveInv_rxEdged c _ r _ hvalid (counterAdd_lt ..) ?_
    rw [hreached]
    exact receiveInv_rxEvent c r { x with arm := false } hvalid hcmp hact hie (h.count hact)

/-! ### The whole invariant -/

/-- A tick in `RUN` keeps the invariant. -/
theorem inv_ticked (x : TickInput) (s : State) (hrun : s.mode = .run) (h : Inv s) : Inv (ticked x s) where
  config := by rw [ticked_cfg]; exact h.config
  counters := countersInRange_ticked x s h.counters
  transmit := fun _ => by
    rw [ticked_cfg, ticked_cnt, ticked_tx]
    exact transmitInv_txTick s.cfg s.cnt s.tx h.config h.counters.cnt h.counters.tx (h.transmit hrun)
  receive := fun _ => by
    rw [ticked_cfg, ticked_cnt, ticked_rx]
    exact receiveInv_rxTick s.cfg s.cnt x.rxd s.rx h.config h.counters.cnt h.counters.rx (h.receive hrun)
  aux := fun _ => by rw [ticked_auxIe]; exact h.aux hrun
  unarmed := fun hoff => absurd hrun (by rwa [ticked_mode] at hoff)

/-- The invariant is about the parameters and the block's registers alone. -/
theorem Inv.of_sameBlock {s t : State} (h : Inv s) (hcfg : t.cfg = s.cfg) (hmode : t.mode = s.mode)
    (hcnt : t.cnt = s.cnt) (htx : t.tx = s.tx) (hrx : t.rx = s.rx) (haux : t.auxIe = s.auxIe) : Inv t where
  config := by rw [hcfg]; exact h.config
  counters := by
    obtain ⟨h1, h2, h3⟩ := h.counters
    exact ⟨by rwa [hcfg, hcnt], by rwa [hcfg, htx], by rwa [hcfg, hrx]⟩
  transmit := by rw [hcfg, hmode, hcnt, htx]; exact h.transmit
  receive := by rw [hcfg, hmode, hcnt, hrx]; exact h.receive
  aux := by rw [hmode, haux]; exact h.aux
  unarmed := by rw [hmode, htx, hrx, haux]; exact h.unarmed

/-- Outside `RUN` only the widths and the four arm and enable bits count. -/
theorem inv_of_unarmed {s : State} (hvalid : s.cfg.valid = true) (hcounters : CountersInRange s) (hmode : s.mode ≠ .run)
    (hunarmed : s.tx.arm = false ∧ s.rx.arm = false ∧ s.rx.ie = false ∧ s.auxIe = false) : Inv s where
  config := hvalid
  counters := hcounters
  transmit := fun h => absurd h hmode
  receive := fun h => absurd h hmode
  aux := fun h => absurd h hmode
  unarmed := fun _ => hunarmed

/-- An accepted `SEND` keeps the invariant: the free slot has the line at mark. -/
theorem inv_of_loaded {s t : State} (h : Inv s) (v : Byte) (hrun : s.mode = .run) (hfree : s.tx.busy = false)
    (hcfg : t.cfg = s.cfg) (hmode : t.mode = s.mode) (hcnt : t.cnt = s.cnt) (htx : t.tx = txLoaded s.cfg s.cnt v s.tx)
    (hrx : t.rx = s.rx) (haux : t.auxIe = s.auxIe) : Inv t where
  config := by rw [hcfg]; exact h.config
  counters := by
    obtain ⟨h1, -, h3⟩ := h.counters
    exact ⟨by rwa [hcfg, hcnt], by rw [hcfg, htx]; exact counterAdd_lt .., by rwa [hcfg, hrx]⟩
  transmit := fun _ => by
    rw [hcfg, hcnt, htx]
    exact transmitInv_txLoaded s.cfg s.cnt v s.tx h.config h.counters.cnt ((h.transmit hrun).idle hfree).2
  receive := by rw [hcfg, hmode, hcnt, hrx]; exact h.receive
  aux := by rw [hmode, haux]; exact h.aux
  unarmed := fun hoff => absurd hrun (by rwa [hmode] at hoff)

/-- `INIT` with a trim starts both engines idle. -/
theorem inv_startUp (r a : Level) (s : State) (h : Inv s) : Inv (startUp r a s) where
  config := h.config
  counters := ⟨h.counters.cnt, h.counters.tx, h.counters.rx⟩
  transmit := fun _ => transmitInv_of_idle _ _ _ rfl rfl rfl rfl
  receive := fun _ => receiveInv_of_idle _ _ _ rfl rfl rfl rfl
  aux := fun _ => rfl
  unarmed := fun hoff => absurd rfl hoff

theorem inv_dispatched (s : State) (hrun : s.mode = .run) (h : Inv s) : Inv (dispatched s) :=
  dispatched_induction s
    (fun _ => h.of_sameBlock rfl rfl rfl rfl rfl rfl)
    (fun _ => h.of_sameBlock rfl rfl rfl rfl rfl rfl)
    (fun _ b _ _ hfree => inv_of_loaded h b hrun hfree rfl rfl rfl rfl rfl rfl)
    fun _ _ => h.of_sameBlock rfl rfl rfl rfl rfl rfl

/-- Every operation from outside, and every step of the host, keeps the invariant. -/
theorem inv_nextState (i : Instr) (s : State) (hi : isInternal i = false) (h : Inv s) : Inv (nextState i s) := by
  have hsilent : Inv (silently s) := h.of_sameBlock rfl rfl rfl rfl rfl rfl
  cases i with
  | por => exact inv_of_unarmed h.config (countersInRange_powerOn s) nofun ⟨rfl, rfl, rfl, rfl⟩
  | init p r a =>
    by_cases hu : s.mode = .uninit
    · cases p with
      | true =>
        rw [nextState_init_some r a s hu]
        exact (inv_startUp r a s h).of_sameBlock rfl rfl rfl rfl rfl rfl
      | false =>
        rw [nextState_init_none r a s hu]
        exact inv_of_unarmed h.config (countersInRange_raiseFatal s) nofun ⟨rfl, rfl, rfl, rfl⟩
    · rw [nextState_init_refused p r a s hu]; exact hsilent
  | tick r a o =>
    by_cases hrun : s.mode = .run
    · rw [nextState_tick_run r a o s hrun]; exact inv_ticked _ s hrun h
    · rw [nextState_tick_off r a o s hrun]; exact h.of_sameBlock rfl rfl rfl rfl rfl rfl
  | send v =>
    rw [nextState]
    split_ifs with hrun hbusy
    · exact h.of_sameBlock rfl rfl rfl rfl rfl rfl
    · exact inv_of_loaded h v hrun (by simpa using hbusy) rfl rfl rfl rfl rfl rfl
    · exact hsilent
  | statusRead | cmdRead | cmdClear | hostWait =>
    rw [nextState]
    split_ifs <;> exact h.of_sameBlock rfl rfl rfl rfl rfl rfl
  | hostDispatch =>
    rw [nextState]
    split_ifs with hdispatching
    · exact inv_dispatched s hdispatching.1 h
    · exact hsilent
  | frame | txsrPattern => exact h
  | _ => cases hi

/-- The inversion of `step`: the script's first word decodes, and its operation completes on the rest. -/
theorem step_next (s t : State) (h : step s = .next t) :
    ∃ w rest i, s.script = w :: rest ∧ decode s.cfg.operandWidth w = some i ∧
      t = nextState i { s with script := rest } := by
  unfold step at h
  split at h
  · split at h
    · cases h
    · next w rest hscript =>
      split at h
      · next i hdecode => exact ⟨w, rest, i, hscript, hdecode, (exec_next i _ t h).2⟩
      · cases h
  · cases h

/-- Settles O51: the step is an operation from outside on the state with the word taken off; the last clause is the bound
of `TransmitInv.ahead` at the decided first offset. -/
theorem stepKeepsTheInvariant : Obligations.StepKeepsTheInvariant := by
  intro s t h hexternal ht
  obtain ⟨w, rest, i, hscript, hdecode, rfl⟩ := step_next s t ht
  have hinv : Inv (nextState i { s with script := rest }) :=
    inv_nextState i _ (hexternal w rest i hscript hdecode) (h.of_sameBlock rfl rfl rfl rfl rfl rfl)
  refine ⟨hinv, ?_⟩
  intro hoffset hrun harm
  have hahead := (hinv.transmit hrun).ahead harm
  rwa [hoffset, ite_self] at hahead

/-- Settles O50: nothing is armed and no counter has moved. -/
theorem invariantHoldsAtReset : Obligations.InvariantHoldsAtReset := by
  intro c hvalid
  constructor
  · exact inv_of_unarmed hvalid ⟨modulus_pos c, modulus_pos c, modulus_pos c⟩ nofun ⟨rfl, rfl, rfl, rfl⟩
  · exact ⟨nofun, nofun, nofun⟩

end Sys2Proof.Machine
end

section
/-! PROOFS. `send_blocking` (30_encoding.md R106): it ends only with an accepted `SEND`, and in the invariant a busy slot
frees after a bounded number of ticks (20_memory.md R74). -/

namespace Sys2Proof.Machine

/-- An accepted `SEND` ends it, with the waits it was given. -/
theorem sendBlocking_of_accepted (b : Byte) (waits : List Wait) (s t : State) (ht : exec (.send b) s = .next t)
    (haccepted : t.result = .accepted true) : sendBlocking b waits s = some (t, waits) := by
  unfold sendBlocking
  rw [ht]
  exact if_pos haccepted

/-- After a refused `SEND` it ends, if at all, from some state with one wait less. -/
theorem sendBlocking_of_refused (b : Byte) (waits : List Wait) (s t : State) (ht : exec (.send b) s = .next t)
    (hrefused : t.result ≠ .accepted true) (r : State × List Wait) (h : sendBlocking b waits s = some r) :
    ∃ w rest u, waits = w :: rest ∧ sendBlocking b rest u = some r := by
  unfold sendBlocking at h
  simp only [ht, if_neg hrefused] at h
  cases waits with
  | nil => cases h
  | cons w rest =>
    simp only at h
    split at h
    · next u _ => exact ⟨w, rest, u, rfl, h⟩
    · cases h
    · cases h

/-- Whatever the state, `send_blocking` ends with a `SEND` that was accepted, with the last of the waits left. -/
theorem sendBlocking_ends_accepted (b : Byte) (waits left : List Wait) (s t : State)
    (h : sendBlocking b waits s = some (t, left)) :
    left <:+ waits ∧ t.result = .accepted true ∧ ∃ u, exec (.send b) u = .next t := by
  have hsend := exec_eq_nextState (.send b) s rfl
  by_cases haccepted : (nextState (.send b) s).result = .accepted true
  · rw [sendBlocking_of_accepted b waits s _ hsend haccepted] at h
    cases h
    exact ⟨List.suffix_rfl, haccepted, s, hsend⟩
  · obtain ⟨w, rest, u, rfl, hu⟩ := sendBlocking_of_refused b waits s _ hsend haccepted _ h
    obtain ⟨hsuffix, hrest⟩ := sendBlocking_ends_accepted b rest left u t hu
    exact ⟨hsuffix.trans (List.suffix_cons w rest), hrest⟩
termination_by waits.length

/-! ### One attempt in `RUN` -/

/-- The state after the ticks `xs`. -/
def tickedAll (xs : List TickInput) (s : State) : State := xs.foldl (fun u x => ticked x u) s

theorem runAll_ticks (xs : List TickInput) (s : State) (hrun : s.mode = .run) :
    runAll (xs.map TickInput.tick) s = .next (tickedAll xs s) := by
  induction xs generalizing s with
  | nil => rfl
  | cons x xs ih =>
    rw [List.map_cons, runAll, exec_tick_eq_ticked x s hrun]
    exact ih _ (by rw [ticked_mode, hrun])

theorem sendBlocking_free (b : Byte) (waits : List Wait) (s : State) (hrun : s.mode = .run) (hfree : s.tx.busy = false) :
    sendBlocking b waits s =
      some ({ s with tx := txLoaded s.cfg s.cnt b s.tx, result := .accepted true }, waits) :=
  sendBlocking_of_accepted b waits s _ (exec_send_free s b hrun hfree) rfl

/-- A refused attempt changes no register, so the waiting goes on from `s`. -/
theorem sendBlocking_busy (b : Byte) (w : Wait) (rest : List Wait) (s : State) (hrun : s.mode = .run)
    (hbusy : s.tx.busy = true) :
    sendBlocking b (w :: rest) s =
      sendBlocking b rest (tickedAll (w.first :: w.more) { s with result := .accepted false }) := by
  rw [sendBlocking, exec_send_busy s b hrun hbusy]
  simp only [Wait.ticks, runAll_ticks _ { s with result := .accepted false } hrun]
  simp

/-! ### When a busy slot frees -/

/-- The ticks after which the transmit slot is free, in a state with the invariant. -/
def ticksToFree (s : State) : Nat :=
  if s.tx.busy then ticksAhead s.cfg s.tx.cmp s.cnt + s.tx.cnt.toNat * s.cfg.bitTime else 0

theorem ticksToFree_le (s : State) (hrun : s.mode = .run) (h : Inv s) :
    ticksToFree s ≤ s.cfg.txFirstOffset + 10 * s.cfg.bitTime := by
  have htx := h.transmit hrun
  unfold ticksToFree
  split_ifs with hbusy
  · obtain ⟨-, hbound⟩ := htx.ahead (by rw [htx.arm, hbusy])
    have hcount := htx.count hbusy
    split_ifs at hbound with hfull
    · rw [hfull]
      exact Nat.add_le_add_right hbound _
    · have hnine : s.tx.cnt.toNat ≤ 9 := by
        have : s.tx.cnt.toNat ≠ 10 := fun heq => hfull (BitVec.eq_of_toNat_eq heq)
        omega
      have := Nat.mul_le_mul_right s.cfg.bitTime hnine
      omega
  · omega

theorem ticksToFree_pos (s : State) (hrun : s.mode = .run) (h : Inv s) (hbusy : s.tx.busy = true) :
    1 ≤ ticksToFree s := by
  have htx := h.transmit hrun
  obtain ⟨hahead, -⟩ := htx.ahead (by rw [htx.arm, hbusy])
  rw [ticksToFree, if_pos hbusy]
  omega

/-- Each tick brings the free slot one tick nearer. -/
theorem ticksToFree_ticked (x : TickInput) (s : State) (hrun : s.mode = .run) (h : Inv s) :
    ticksToFree (ticked x s) ≤ ticksToFree s - 1 := by
  have htx := h.transmit hrun
  have hcnt := h.counters.cnt
  have hcmp := h.counters.tx
  unfold ticksToFree
  rw [ticked_tx, ticked_cfg, ticked_cnt]
  cases hfire : fires s.tx.arm s.tx.cmp (counterAdd s.cfg s.cnt 1) with
  | false =>
    rw [txTick, hfire, if_neg Bool.false_ne_true]
    split_ifs with hbusy
    · obtain ⟨hahead, -⟩ := htx.ahead (by rw [htx.arm, hbusy])
      obtain ⟨hnearer, -⟩ := ticksAhead_tick s.cfg s.tx.cmp s.cnt hcmp hcnt hahead
      omega
    · omega
  | true =>
    obtain ⟨harm, hreached⟩ := (fires_iff ..).1 hfire
    have hbusy : s.tx.busy = true := by rw [← htx.arm, harm]
    have hahead := (htx.ahead harm).1
    rw [txTick, hfire, if_pos rfl, hreached]
    by_cases hdone : s.tx.cnt = 0#4
    · simp [txEvent_of_done s.cfg s.tx hdone]
    · obtain ⟨-, hbit_lt⟩ := valid_bitTime s.cfg h.config
      have hpos : s.tx.cnt.toNat ≠ 0 := fun heq => hdone (BitVec.eq_of_toNat_eq heq)
      obtain ⟨k, hk⟩ : ∃ k, s.tx.cnt.toNat = k + 1 := ⟨s.tx.cnt.toNat - 1, by omega⟩
      simp only [txEvent_of_cells s.cfg s.tx hdone, hbusy, if_true, ticksAhead_counterAdd s.cfg _ _ hcmp hbit_lt,
        toNat_sub_one _ hdone, hk, Nat.add_sub_cancel, Nat.succ_mul]
      omega

/-- Ticks keep `RUN` and the invariant, and the free slot does not move away. -/
theorem tickedAll_keeps (xs : List TickInput) (s : State) (hrun : s.mode = .run) (h : Inv s) :
    (tickedAll xs s).mode = .run ∧ Inv (tickedAll xs s) ∧ ticksToFree (tickedAll xs s) ≤ ticksToFree s := by
  induction xs generalizing s with
  | nil => exact ⟨hrun, h, le_rfl⟩
  | cons x xs ih =>
    obtain ⟨hmode, hinv, hle⟩ := ih (ticked x s) (by rw [ticked_mode, hrun]) (inv_ticked x s hrun h)
    have := ticksToFree_ticked x s hrun h
    exact ⟨hmode, hinv, le_trans hle (by omega)⟩

/-- With as many waits as ticks are missing to a free slot, `send_blocking` ends with the byte loaded. -/
theorem sendBlocking_ends (b : Byte) (waits : List Wait) (s : State) (h : Inv s) (hrun : s.mode = .run)
    (henough : ticksToFree s ≤ waits.length) :
    ∃ t left, sendBlocking b waits s = some (t, left) ∧ t.tx.sr = framePattern b ∧ t.tx.cnt = 10#4 ∧
      t.tx.busy = true := by
  induction waits generalizing s with
  | nil =>
    cases hbusy : s.tx.busy with
    | false => exact ⟨_, _, sendBlocking_free b [] s hrun hbusy, rfl, rfl, rfl⟩
    | true =>
      have := ticksToFree_pos s hrun h hbusy
      rw [List.length_nil] at henough
      omega
  | cons w rest ih =>
    cases hbusy : s.tx.busy with
    | false => exact ⟨_, _, sendBlocking_free b (w :: rest) s hrun hbusy, rfl, rfl, rfl⟩
    | true =>
      rw [sendBlocking_busy b w rest s hrun hbusy]
      have hrefused : Inv { s with result := .accepted false } := h.of_sameBlock rfl rfl rfl rfl rfl rfl
      have hfirst := ticksToFree_ticked w.first { s with result := .accepted false } hrun hrefused
      obtain ⟨hmode, hinv, hle⟩ := tickedAll_keeps w.more (ticked w.first { s with result := .accepted false })
        (by rw [ticked_mode, hrun]) (inv_ticked _ _ hrun hrefused)
      have hsame : ticksToFree { s with result := .accepted false } = ticksToFree s := rfl
      rw [List.length_cons] at henough
      exact ih _ hinv hmode (le_trans hle (by omega))

/-- Settles O57. -/
theorem repeatedSendEndsAccepted : Obligations.RepeatedSendEndsAccepted := by
  constructor
  · intro s t b waits left
    exact sendBlocking_ends_accepted b waits left s t
  · intro s b waits h hrun henough
    exact sendBlocking_ends b waits s h hrun (le_trans (ticksToFree_le s hrun h) henough)

end Sys2Proof.Machine
end

section
/-! PROOFS. Independence: of the two engines from each other (20_memory.md R76), and of everything from the absolute value of
the counter (40_bit_clock.md R129); and an injected step in `UNINIT` and in `RUN` (log 10). -/

namespace Sys2Proof.Machine

/-! ### Transmission and reception (R76) -/

theorem nextState_tick_tx (r a : Level) (o : Bool) (s : State) :
    (nextState (.tick r a o) s).tx = if s.mode = .run then txTick s.cfg (nextCnt s) s.tx else s.tx := by
  by_cases hrun : s.mode = .run
  · rw [nextState_tick_run r a o s hrun, ticked_tx, if_pos hrun]
  · rw [nextState_tick_off r a o s hrun, if_neg hrun]

theorem nextState_tick_rx (r a : Level) (o : Bool) (s : State) :
    (nextState (.tick r a o) s).rx = if s.mode = .run then rxTick s.cfg (nextCnt s) r s.rx else s.rx := by
  by_cases hrun : s.mode = .run
  · rw [nextState_tick_run r a o s hrun, ticked_rx, if_pos hrun]
  · rw [nextState_tick_off r a o s hrun, if_neg hrun]

theorem rxStepped_tx (b : Level) (s : State) : (rxStepped b s).tx = s.tx := by
  rw [rxStepped_eq]

/-- Settles O53: `txTick` reads nothing else, and no receive-side step writes the transmit registers. -/
theorem transmitIsIndependentOfReceive : Obligations.TransmitIsIndependentOfReceive := by
  constructor
  · intro s s' t t' r r' a a' o o' hcfg hmode hcnt htx ht ht'
    obtain ⟨-, rfl⟩ := exec_next _ s t ht
    obtain ⟨-, rfl⟩ := exec_next _ s' t' ht'
    rw [nextState_tick_tx, nextState_tick_tx, nextCnt, nextCnt, hcfg, hmode, hcnt, htx]
  · intro s t b h
    rcases h with ht | ht | ht | ht | ht <;> obtain ⟨-, rfl⟩ := exec_next _ s t ht
    · exact unlessFatal_induction (P := (·.tx = s.tx)) (fun _ => rfl) fun _ => rxStepped_tx b s
    · exact unlessFatal_induction (P := (·.tx = s.tx)) (fun _ => rfl) fun _ => rfl
    · exact unlessFatal_induction (P := (·.tx = s.tx)) (fun _ => rfl) fun _ => rfl
    · rfl
    · exact unlessFatal_induction (P := (·.tx = s.tx)) (fun _ => rfl) fun _ => rxStepped_tx _ _

/-- Settles O54: `rxTick` reads nothing else, and no transmit operation writes the receive registers or `CMD`. -/
theorem receiveIsIndependentOfTransmit : Obligations.ReceiveIsIndependentOfTransmit := by
  constructor
  · intro s s' t t' r a a' o o' hcfg hmode hcnt hrx ht ht'
    obtain ⟨-, rfl⟩ := exec_next _ s t ht
    obtain ⟨-, rfl⟩ := exec_next _ s' t' ht'
    rw [nextState_tick_rx, nextState_tick_rx, nextCnt, nextCnt, hcfg, hmode, hcnt, hrx]
  · intro s t v b h
    rcases h with ht | ht | ht | ht | ht <;> obtain ⟨-, rfl⟩ := exec_next _ s t ht
    · rw [nextState]; split_ifs <;> exact ⟨rfl, rfl⟩
    · exact unlessFatal_induction (P := fun u => u.rx = s.rx ∧ u.cmd = s.cmd) (fun _ => ⟨rfl, rfl⟩) fun _ => ⟨rfl, rfl⟩
    · exact unlessFatal_induction (P := fun u => u.rx = s.rx ∧ u.cmd = s.cmd) (fun _ => ⟨rfl, rfl⟩) fun _ => ⟨rfl, rfl⟩
    · rw [nextState]; split_ifs <;> exact ⟨rfl, rfl⟩
    · exact unlessFatal_induction (P := fun u => u.rx = s.rx ∧ u.cmd = s.cmd) (fun _ => ⟨rfl, rfl⟩) fun _ => ⟨rfl, rfl⟩

/-! ### An injected step in `UNINIT` and in `RUN` (log 10) -/

theorem isPattern_of_isInternal (i : Instr) (hi : isInternal i = true) : isPattern i = false := by
  cases i with
  | frame | txsrPattern => cases hi
  | _ => rfl

/-- A rule that neither reads nor writes `MODE` does in `UNINIT`, injected, what it does in `RUN`. -/
theorem unlessFatal_uninit (f : State → State) (s : State) (huninit : s.mode = .uninit)
    (hf : ∀ m, f { s with mode := m } = { f s with mode := m }) :
    unlessFatal s (f s) = { unlessFatal { s with mode := .run } (f { s with mode := .run }) with mode := .uninit } := by
  have hmode : (f s).mode = .uninit :=
    calc (f s).mode
      _ = (f { s with mode := .uninit }).mode := by rw [← huninit]
      _ = .uninit := by rw [hf .uninit]
  rw [hf .run]
  simp [unlessFatal, huninit, hmode]

/-- An internal operation does not look at `MODE` but for `FATAL`. -/
theorem nextState_internal_uninit (i : Instr) (s : State) (hi : isInternal i = true) (huninit : s.mode = .uninit) :
    nextState i s = { nextState i { s with mode := .run } with mode := .uninit } := by
  have hinjected (f : State → State) := unlessFatal_uninit f s huninit
  cases i with
  | scheduleNext c n => cases c <;> exact hinjected (fun s => armAt _ (counterAdd s.cfg s.cnt n) s) fun _ => rfl
  | reschedule c n => cases c <;> exact hinjected (fun s => armAt _ (counterAdd s.cfg (compareOf _ s) n) s) fun _ => rfl
  | disable c => cases c <;> exact hinjected (disable _) fun _ => rfl
  | fire c =>
    cases c with
    | tx => exact hinjected (fun s => { s with tx := txEvent s.cfg s.tx }) fun _ => rfl
    | rx =>
      refine hinjected (fun s => rxStepped (drawBit s 0) (disable .rx (skipDraws 1 s))) fun _ => ?_
      rw [rxStepped_eq, rxStepped_eq]
      rfl
  | txStep => exact hinjected (fun s => { s with tx := txEvent s.cfg s.tx }) fun _ => rfl
  | rxStep b =>
    refine hinjected (rxStepped b) fun _ => ?_
    rw [rxStepped_eq, rxStepped_eq]
  | rxEdge => exact hinjected (fun s => { s with rx := rxStarted s.cfg s.cnt s.rx }) fun _ => rfl
  | auxEdge =>
    exact hinjected (fun s => { s with cmd := s.cfg.cmdAux, wake := true, host := hostHears s.cfg true s.host })
      fun _ => rfl
  | writeLine b => exact hinjected (fun s => { s with tx.txd := b }) fun _ => rfl
  | configureEdgeInterrupt e r a =>
    refine hinjected (configureEdgeInterrupt e r a) fun _ => ?_
    rw [configureEdgeInterrupt_eq, configureEdgeInterrupt_eq]
  | otherIrq | clearInterruptFlags | readLine | getCalibratedTrim =>
    rw [← huninit]
    rfl
  | _ => cases hi

/-- Settles O21. -/
theorem injectedStepsRunInUninitAsInRun : Obligations.InjectedStepsRunInUninitAsInRun := by
  intro i s hi huninit
  have hpattern := isPattern_of_isInternal i hi
  refine ⟨_, exec_eq_nextState i _ hpattern, ?_⟩
  rw [exec_eq_nextState i s hpattern, nextState_internal_uninit i s hi huninit]

/-! ### No absolute time (R129) -/

theorem counterAdd_right_comm (c : Config) (a b d : Nat) :
    counterAdd c (counterAdd c a b) d = counterAdd c (counterAdd c a d) b := by
  rw [counterAdd_assoc, counterAdd_assoc, Nat.add_comm]

/-- The transmit registers with the compare value moved by `k`. -/
def shiftTx (c : Config) (k : Nat) (x : TxRegs) : TxRegs := { x with cmp := counterAdd c x.cmp k }

/-- The receive registers with the compare value moved by `k`. -/
def shiftRx (c : Config) (k : Nat) (x : RxRegs) : RxRegs := { x with cmp := counterAdd c x.cmp k }

/-- A channel matches after the move exactly when it did before. -/
theorem fires_shift (c : Config) (k : Nat) (arm : Bool) (cmp cnt : Nat) (hcmp : cmp < c.modulus) (hcnt : cnt < c.modulus) :
    fires arm (counterAdd c cmp k) (counterAdd c cnt k) = fires arm cmp cnt := by
  rw [Bool.eq_iff_iff, fires_iff, fires_iff, counterAdd_inj c cnt cmp k hcnt hcmp]

theorem txEvent_shift (c : Config) (k : Nat) (x : TxRegs) : txEvent c (shiftTx c k x) = shiftTx c k (txEvent c x) := by
  by_cases hdone : x.cnt = 0#4
  · rw [txEvent_of_done c x hdone, txEvent_of_done c (shiftTx c k x) hdone]
    simp only [shiftTx, counterAdd_right_comm c x.cmp k]
  · rw [txEvent_of_cells c x hdone, txEvent_of_cells c (shiftTx c k x) hdone]
    simp only [shiftTx, counterAdd_right_comm c x.cmp k]

theorem txTick_shift (c : Config) (k cnt : Nat) (x : TxRegs) (hcmp : x.cmp < c.modulus) (hcnt : cnt < c.modulus) :
    txTick c (counterAdd c cnt k) (shiftTx c k x) = shiftTx c k (txTick c cnt x) := by
  have hfires := fires_shift c k x.arm x.cmp cnt hcmp hcnt
  unfold txTick
  rw [txEvent_shift, shiftTx, hfires]
  split <;> rfl

theorem txLoaded_shift (c : Config) (k cnt : Nat) (v : Byte) (x : TxRegs) :
    txLoaded c (counterAdd c cnt k) v (shiftTx c k x) = shiftTx c k (txLoaded c cnt v x) := by
  simp only [txLoaded, shiftTx, counterAdd_right_comm c cnt k]

theorem rxStarted_shift (c : Config) (k cnt : Nat) (x : RxRegs) :
    rxStarted c (counterAdd c cnt k) (shiftRx c k x) = shiftRx c k (rxStarted c cnt x) := by
  simp only [rxStarted, shiftRx, counterAdd_right_comm c cnt k]

theorem rxEvent_shift (c : Config) (k : Nat) (b : Level) (x : RxRegs) :
    rxEvent c b (shiftRx c k x) = shiftRx c k (rxEvent c b x) := by
  simp only [rxEvent, shiftRx, counterAdd_right_comm c x.cmp k]
  split_ifs <;> rfl

theorem rxEdged_shift (c : Config) (k cnt : Nat) (r : Level) (y : RxRegs) :
    rxEdged c (counterAdd c cnt k) r (shiftRx c k y) = shiftRx c k (rxEdged c cnt r y) := by
  cases h : edgeAccepted y.ie y.prev r with
  | true =>
    rw [rxEdged_of_edge c cnt r y h, rxEdged_of_edge c _ r (shiftRx c k y) h, rxStarted_shift]
    rfl
  | false =>
    rw [rxEdged_of_quiet c cnt r y h, rxEdged_of_quiet c _ r (shiftRx c k y) h]
    rfl

theorem rxTick_shift (c : Config) (k cnt : Nat) (r : Level) (x : RxRegs) (hcmp : x.cmp < c.modulus)
    (hcnt : cnt < c.modulus) : rxTick c (counterAdd c cnt k) r (shiftRx c k x) = shiftRx c k (rxTick c cnt r x) := by
  have hfires := fires_shift c k x.arm x.cmp cnt hcmp hcnt
  cases h : fires x.arm x.cmp cnt with
  | true =>
    rw [rxTick_of_fire c cnt r x h, rxTick_of_fire c _ r (shiftRx c k x) (hfires.trans h), ← rxEdged_shift,
      ← rxEvent_shift]
    rfl
  | false =>
    rw [rxTick_of_no_fire c cnt r x h, rxTick_of_no_fire c _ r (shiftRx c k x) (hfires.trans h), rxEdged_shift]

theorem shiftTime_eq (k : Nat) (s : State) : shiftTime k s =
    { s with cnt := counterAdd s.cfg s.cnt k, tx := shiftTx s.cfg k s.tx, rx := shiftRx s.cfg k s.rx } := rfl

/-- A tick does not depend on the absolute value of the counter. -/
theorem tick_shiftTime (r a : Level) (o : Bool) (k : Nat) (s : State) (h : CountersInRange s) :
    tick r a o (shiftTime k s) = shiftTime k (tick r a o s) := by
  have hnext : nextCnt (shiftTime k s) = counterAdd s.cfg (nextCnt s) k := counterAdd_right_comm s.cfg s.cnt k 1
  have hlt : nextCnt s < s.cfg.modulus := counterAdd_lt ..
  have hcompletes : rxCompletes (shiftTime k s) = rxCompletes s := by
    rw [rxCompletes, rxFires, hnext]
    exact congrArg (· && _) (fires_shift s.cfg k s.rx.arm s.rx.cmp (nextCnt s) h.rx hlt)
  rw [tick_eq, tick_eq, hcompletes, hnext, shiftTime_eq, shiftTime_eq]
  simp only [txTick_shift s.cfg k _ s.tx h.tx hlt, rxTick_shift s.cfg k _ r s.rx h.rx hlt]
  rfl

theorem armAt_shiftTime (c : Channel) (v k : Nat) (s : State) :
    armAt c (counterAdd s.cfg v k) (shiftTime k s) = shiftTime k (armAt c v s) := by
  cases c <;> rfl

theorem rxStepped_shiftTime (b : Level) (k : Nat) (s : State) :
    rxStepped b (shiftTime k s) = shiftTime k (rxStepped b s) := by
  rw [rxStepped_eq, rxStepped_eq, shiftTime_eq, shiftTime_eq]
  simp only [rxEvent_shift]
  rfl

theorem dispatched_shiftTime (k : Nat) (s : State) : dispatched (shiftTime k s) = shiftTime k (dispatched s) := by
  cases hc : s.host.command with
  | none =>
    rw [dispatched_read s hc, dispatched_read (shiftTime k s) hc]
    rfl
  | some v =>
    cases hb : (lookup s.cfg v).response[s.host.index]? with
    | none =>
      rw [dispatched_clear s v hc hb, dispatched_clear (shiftTime k s) v hc hb]
      rfl
    | some b =>
      cases ht : s.tx.busy with
      | true =>
        rw [dispatched_busy s v b hc hb ht, dispatched_busy (shiftTime k s) v b hc hb ht]
        rfl
      | false =>
        rw [dispatched_send s v b hc hb ht, dispatched_send (shiftTime k s) v b hc hb ht, sentState, sentState,
          shiftTime_eq, shiftTime_eq]
        simp only [txLoaded_shift]

theorem unlessFatal_shiftTime (k : Nat) (s t t' : State) (h : t' = shiftTime k t) :
    unlessFatal (shiftTime k s) t' = shiftTime k (unlessFatal s t) := by
  rw [h, unlessFatal, unlessFatal, apply_ite (shiftTime k)]
  rfl

/-- Every operation but the two that leave the counters unspecified commutes with the move. -/
theorem nextState_shiftTime (i : Instr) (s : State) (k : Nat) (h : CountersInRange s)
    (hi : ¬(i = .por ∨ s.mode = .uninit ∧ ∃ r a, i = .init false r a)) :
    nextState i (shiftTime k s) = shiftTime k (nextState i s) := by
  cases i with
  | por => exact absurd (.inl rfl) hi
  | init p r a =>
    by_cases hu : s.mode = .uninit
    · cases p with
      | true => rw [nextState_init_some r a s hu, nextState_init_some r a (shiftTime k s) hu]; rfl
      | false => exact absurd (.inr ⟨hu, r, a, rfl⟩) hi
    · rw [nextState_init_refused p r a s hu, nextState_init_refused p r a (shiftTime k s) hu]; rfl
  | tick r a o =>
    by_cases hrun : s.mode = .run
    · rw [nextState_tick_run r a o s hrun, nextState_tick_run r a o (shiftTime k s) hrun, ticked,
        tick_shiftTime _ _ _ k s h]
      rfl
    · rw [nextState_tick_off r a o s hrun, nextState_tick_off r a o (shiftTime k s) hrun]; rfl
  | send v =>
    by_cases hrun : s.mode = .run
    · cases hbusy : s.tx.busy with
      | true => rw [nextState_send_busy v s hrun hbusy, nextState_send_busy v (shiftTime k s) hrun hbusy]; rfl
      | false =>
        rw [nextState_send_free v s hrun hbusy, nextState_send_free v (shiftTime k s) hrun hbusy, shiftTime_eq,
          shiftTime_eq]
        simp only [txLoaded_shift]
    · rw [nextState_send_off v s hrun, nextState_send_off v (shiftTime k s) hrun]; rfl
  | statusRead | cmdRead | cmdClear | hostWait =>
    rw [nextState, nextState, apply_ite (shiftTime k)]
    rfl
  | otherIrq | readLine | clearInterruptFlags | getCalibratedTrim | frame | txsrPattern => rfl
  | scheduleNext c n =>
    refine unlessFatal_shiftTime k s _ _ ?_
    rw [← armAt_shiftTime, counterAdd_right_comm]
    rfl
  | reschedule c n =>
    refine unlessFatal_shiftTime k s _ _ ?_
    rw [← armAt_shiftTime, counterAdd_right_comm]
    cases c <;> rfl
  | disable c => cases c <;> exact unlessFatal_shiftTime k s _ _ rfl
  | fire c =>
    cases c with
    | tx =>
      refine unlessFatal_shiftTime k s _ _ ?_
      simp only [shiftTime_eq, txEvent_shift]
    | rx => exact unlessFatal_shiftTime k s _ _ (rxStepped_shiftTime (drawBit s 0) k (disable .rx (skipDraws 1 s)))
  | txStep =>
    refine unlessFatal_shiftTime k s _ _ ?_
    simp only [shiftTime_eq, txEvent_shift]
  | rxStep b => exact unlessFatal_shiftTime k s _ _ (rxStepped_shiftTime b k s)
  | rxEdge =>
    refine unlessFatal_shiftTime k s _ _ ?_
    simp only [shiftTime_eq, rxStarted_shift]
  | auxEdge | writeLine => exact unlessFatal_shiftTime k s _ _ rfl
  | configureEdgeInterrupt e r a =>
    refine unlessFatal_shiftTime k s _ _ ?_
    rw [configureEdgeInterrupt_eq, configureEdgeInterrupt_eq]
    rfl
  | hostDispatch =>
    rw [nextState, nextState, apply_ite (shiftTime k), ← dispatched_shiftTime]
    rfl

/-- After `POR` and after an `INIT` without a trim nothing of the counters before is left (10_state.md R40). -/
theorem nextState_shiftTime_unspecified (i : Instr) (s : State) (k : Nat)
    (hi : i = .por ∨ s.mode = .uninit ∧ ∃ r a, i = .init false r a) : nextState i (shiftTime k s) = nextState i s := by
  rcases hi with rfl | ⟨hu, r, a, rfl⟩
  · rfl
  · rw [nextState_init_none r a s hu, nextState_init_none r a (shiftTime k s) hu]
    rfl

/-- Settles O55. -/
theorem noAbsoluteTime : Obligations.NoAbsoluteTime := by
  intro i s t k h ht
  obtain ⟨hpattern, rfl⟩ := exec_next i s t ht
  rw [exec_eq_nextState i (shiftTime k s) hpattern]
  constructor
  · intro hi
    rw [nextState_shiftTime_unspecified i s k hi]
  · intro hi
    rw [nextState_shiftTime i s k h hi]

end Sys2Proof.Machine
end

section
/-! PROOFS. The host agent (44_command_dispatcher.md): its loop, the steps of a dispatch pass, and the command that is lost
between the read and the clear. -/

namespace Sys2Proof.Machine

/-! ### What the block does to the host: a pulse, or nothing (R200; log 14, log 15) -/

/-- From `s` to `t` the host at most hears a pulse, and at most loses the one it had not acted on. -/
def HostOnlyHears (s t : State) : Prop :=
  ∃ w b : Bool, t.host = hostHears s.cfg w { s.host with woken := b } ∧ (w = true → t.wake = true) ∧
    (b = true → s.host.woken = true ∧ (s.mode = .run → s.wake = true → t.wake = true))

theorem hostOnlyHears_of_same {s t : State} (hhost : t.host = s.host) (hwake : t.wake = s.wake) : HostOnlyHears s t :=
  ⟨false, s.host.woken, by rw [hhost, hostHears_false], nofun, fun h => ⟨h, fun _ h => by rw [hwake, h]⟩⟩

theorem hostOnlyHears_rxStepped {s t : State} (b : Level) (hcfg : t.cfg = s.cfg) (hhost : t.host = s.host)
    (hwake : t.wake = s.wake) : HostOnlyHears s (silently (rxStepped b t)) := by
  rw [rxStepped_eq]
  refine ⟨rxDone t.rx.cnt, s.host.woken, ?_, ?_, fun h => ⟨h, fun _ h => ?_⟩⟩
  · simp only [hcfg, hhost]
  · intro h
    simp only [h, Bool.true_or]
  · simp only [hwake, h, Bool.or_true]

theorem hostOnlyHears_ticked (x : TickInput) (s : State) : HostOnlyHears s (ticked x s) := by
  refine ⟨(ticked x s).wake, false, ?_, id, nofun⟩
  rw [ticked_wake, ticked, tick_eq]

/-- Only `POR`, `INIT` and the host's own steps do more to the host. -/
theorem nextState_hostOnlyHears (i : Instr) (s : State) (hpor : i ≠ .por) (hinit : ∀ p r a, i ≠ .init p r a)
    (hwait : i ≠ .hostWait) (hdispatch : i ≠ .hostDispatch) : HostOnlyHears s (nextState i s) := by
  cases i with
  | por => exact absurd rfl hpor
  | init p r a => exact absurd rfl (hinit p r a)
  | hostWait => exact absurd rfl hwait
  | hostDispatch => exact absurd rfl hdispatch
  | tick r a o =>
    by_cases hrun : s.mode = .run
    · rw [nextState_tick_run r a o s hrun]
      exact hostOnlyHears_ticked _ s
    · rw [nextState_tick_off r a o s hrun]
      exact ⟨false, s.host.woken, by rw [hostHears_false], nofun, fun h => ⟨h, fun h => absurd h hrun⟩⟩
  | send | statusRead | cmdRead | cmdClear =>
    rw [nextState]
    split_ifs <;> exact hostOnlyHears_of_same rfl rfl
  | otherIrq | readLine | clearInterruptFlags | getCalibratedTrim | frame | txsrPattern =>
    exact hostOnlyHears_of_same rfl rfl
  | scheduleNext c | reschedule c | disable c =>
    cases c <;>
      exact unlessFatal_induction (fun _ => hostOnlyHears_of_same rfl rfl) fun _ => hostOnlyHears_of_same rfl rfl
  | fire c =>
    cases c with
    | tx => exact unlessFatal_induction (fun _ => hostOnlyHears_of_same rfl rfl) fun _ => hostOnlyHears_of_same rfl rfl
    | rx =>
      exact unlessFatal_induction (fun _ => hostOnlyHears_of_same rfl rfl) fun _ => hostOnlyHears_rxStepped _ rfl rfl rfl
  | rxStep b =>
    exact unlessFatal_induction (fun _ => hostOnlyHears_of_same rfl rfl) fun _ => hostOnlyHears_rxStepped b rfl rfl rfl
  | auxEdge =>
    exact unlessFatal_induction (fun _ => hostOnlyHears_of_same rfl rfl) fun _ =>
      ⟨true, s.host.woken, rfl, fun _ => rfl, fun h => ⟨h, fun _ _ => rfl⟩⟩
  | configureEdgeInterrupt e r a =>
    refine unlessFatal_induction (fun _ => hostOnlyHears_of_same rfl rfl) fun _ => ?_
    rw [configureEdgeInterrupt_eq]
    exact hostOnlyHears_of_same rfl rfl
  | txStep | rxEdge | writeLine =>
    exact unlessFatal_induction (fun _ => hostOnlyHears_of_same rfl rfl) fun _ => hostOnlyHears_of_same rfl rfl

/-! ### The host stays in its loop (R200, R201) -/

/-- Outside `RUN` the host is not in its loop. -/
theorem hostInv_of_not_run {s : State} (h : s.mode ≠ .run) : HostInv s :=
  ⟨fun hrun => absurd hrun h, fun hrun => absurd hrun h, fun hrun => absurd hrun h⟩

theorem hostInv_of_same {s t : State} (h : HostInv s) (hcfg : t.cfg = s.cfg) (hmode : t.mode = s.mode)
    (hhost : t.host = s.host) (hwake : t.wake = s.wake) : HostInv t :=
  ⟨by rw [hmode, hhost]; exact h.waiting, by rw [hmode, hhost, hcfg]; exact h.inside,
    by rw [hmode, hhost, hwake]; exact h.woken⟩

/-- A pulse keeps the host in its loop. -/
theorem hostInv_of_onlyHears {s t : State} (h : HostInv s) (hcfg : t.cfg = s.cfg) (hmode : t.mode = s.mode)
    (hhears : HostOnlyHears s t) : HostInv t := by
  obtain ⟨w, b, hhost, hpulse, hkept⟩ := hhears
  constructor
  · rw [hmode, hhost]
    exact h.waiting
  · rw [hmode, hhost, hcfg]
    exact h.inside
  · intro hrun hwoken
    rw [hmode] at hrun
    rw [hhost] at hwoken ⊢
    simp only [hostHears, Bool.or_eq_true, Bool.and_eq_true, beq_iff_eq] at hwoken ⊢
    rcases hwoken with hb | ⟨hwaiting, hw⟩
    · obtain ⟨hwas, hwake⟩ := hkept hb
      obtain ⟨hwaiting, hpulsed⟩ := h.woken hrun hwas
      exact ⟨hwaiting, hwake hrun hpulsed⟩
    · exact ⟨hwaiting, hpulse hw⟩

/-- A host without a command, at the start of a pass or waiting, with no pulse pending. -/
theorem hostInv_of_no_command {s : State} (hcommand : s.host.command = none) (hindex : s.host.index = 0)
    (hwoken : s.host.woken = false) : HostInv s where
  waiting := fun _ _ => ⟨hcommand, hindex⟩
  inside := fun _ v hv => by simp [hcommand] at hv
  woken := fun _ h => by simp [hwoken] at h

/-- In the invariant a dispatching host is not being woken. -/
theorem HostInv.woken_of_dispatching {s : State} (h : HostInv s) (hrun : s.mode = .run)
    (hdispatching : s.host.mode = .dispatching) : s.host.woken = false := by
  cases hwoken : s.host.woken with
  | false => rfl
  | true =>
    have hwaiting := (h.woken hrun hwoken).1
    rw [hdispatching] at hwaiting
    cases hwaiting

/-- A dispatching host inside the response of the command `v`. -/
theorem hostInv_of_inside {s : State} (v : Byte) (hdispatching : s.host.mode = .dispatching)
    (hcommand : s.host.command = some v) (hindex : s.host.index ≤ (lookup s.cfg v).response.length)
    (hwoken : s.host.woken = false) : HostInv s where
  waiting := fun _ hwaiting => by simp [hdispatching] at hwaiting
  inside := fun _ u hu => by
    rw [hcommand, Option.some.injEq] at hu
    rwa [← hu]
  woken := fun _ h => by simp [hwoken] at h

/-- Each operation of a pass keeps the host in its loop. -/
theorem hostInv_dispatched (s : State) (hrun : s.mode = .run) (hdispatching : s.host.mode = .dispatching)
    (h : HostInv s) : HostInv (dispatched s) := by
  have hwoken := h.woken_of_dispatching hrun hdispatching
  refine dispatched_induction s ?read ?busy ?send ?clear
  case read => exact fun _ => hostInv_of_inside s.cmd hdispatching rfl (Nat.zero_le _) hwoken
  case busy => exact fun _ => hostInv_of_same h rfl rfl rfl rfl
  case send =>
    intro v b hcommand hb _
    obtain ⟨hlt, -⟩ := List.getElem?_eq_some_iff.1 hb
    exact hostInv_of_inside v hdispatching hcommand hlt hwoken
  case clear => exact fun _ _ => hostInv_of_no_command rfl rfl hwoken

theorem nextState_hostWait_woken (s : State) (h : s.mode = .run ∧ s.host.mode = .waiting ∧ s.host.woken = true) :
    nextState .hostWait s = { s with
      host := { s.host with mode := .dispatching, command := none, index := 0, woken := false }, result := .silent } := by
  rw [nextState, if_pos h]

theorem nextState_hostWait_held (s : State) (h : ¬(s.mode = .run ∧ s.host.mode = .waiting ∧ s.host.woken = true)) :
    nextState .hostWait s = silently s := by
  rw [nextState, if_neg h]

theorem nextState_hostDispatch (s : State) (h : s.mode = .run ∧ s.host.mode = .dispatching) :
    nextState .hostDispatch s = dispatched s := by
  rw [nextState, if_pos h]

theorem nextState_hostDispatch_held (s : State) (h : ¬(s.mode = .run ∧ s.host.mode = .dispatching)) :
    nextState .hostDispatch s = silently s := by
  rw [nextState, if_neg h]

/-- Settles O43. -/
theorem hostStaysInsideItsLoop : Obligations.HostStaysInsideItsLoop := by
  intro i s t h ht
  obtain ⟨-, rfl⟩ := exec_next i s t ht
  have hsilent : HostInv (silently s) := hostInv_of_same h rfl rfl rfl rfl
  cases i with
  | por => exact hostInv_of_not_run nofun
  | init p r a =>
    by_cases hu : s.mode = .uninit
    · cases p with
      | true => rw [nextState_init_some r a s hu]; exact hostInv_of_no_command rfl rfl rfl
      | false => rw [nextState_init_none r a s hu]; exact hostInv_of_not_run nofun
    · rw [nextState_init_refused p r a s hu]; exact hsilent
  | hostWait =>
    by_cases hw : s.mode = .run ∧ s.host.mode = .waiting ∧ s.host.woken = true
    · rw [nextState_hostWait_woken s hw]; exact hostInv_of_no_command rfl rfl rfl
    · rw [nextState_hostWait_held s hw]; exact hsilent
  | hostDispatch =>
    by_cases hd : s.mode = .run ∧ s.host.mode = .dispatching
    · rw [nextState_hostDispatch s hd]; exact hostInv_dispatched s hd.1 hd.2 h
    · rw [nextState_hostDispatch_held s hd]; exact hsilent
  | tick r a o =>
    exact hostInv_of_onlyHears h (nextState_cfg_script _ s).1 (nextState_tick_mode r a o s)
      (nextState_hostOnlyHears _ s (by nofun) (by nofun) (by nofun) (by nofun))
  | _ =>
    exact hostInv_of_onlyHears h (nextState_cfg_script _ s).1
      (nextState_sameControl _ s (by nofun) (by nofun) (by nofun)).mode
      (nextState_hostOnlyHears _ s (by nofun) (by nofun) (by nofun) (by nofun))

/-! ### One step of the host (R200, R201) -/

/-- Settles O39: the read branch of the pass. -/
theorem hostDispatchReadsAndActs : Obligations.HostDispatchReadsAndActs := by
  intro s hrun hdispatching hcommand
  rw [exec_eq_nextState _ s rfl, nextState_hostDispatch s ⟨hrun, hdispatching⟩, dispatched_read s hcommand]
  rfl

/-- Settles O40: the two send branches of the pass, the second being `SEND` with the index advanced. -/
theorem hostDispatchSendsTheNextByte : Obligations.HostDispatchSendsTheNextByte := by
  intro s c v hrun hdispatching hcommand hbyte
  rw [exec_eq_nextState _ s rfl, nextState_hostDispatch s ⟨hrun, hdispatching⟩]
  constructor
  · intro hbusy
    rw [dispatched_busy s c v hcommand hbyte hbusy]
  · intro hfree
    refine ⟨_, exec_send_free s v hrun hfree, ?_⟩
    rw [dispatched_send s c v hcommand hbyte hfree]
    rfl

/-- Settles O41: the clear branch of the pass. -/
theorem hostDispatchClearsAndWaits : Obligations.HostDispatchClearsAndWaits := by
  intro s c hrun hdispatching hcommand hend
  refine ⟨_, exec_eq_nextState _ s rfl, ?_⟩
  rw [nextState_hostDispatch s ⟨hrun, hdispatching⟩,
    dispatched_clear s c hcommand (List.getElem?_eq_none hend)]
  refine ⟨rfl, rfl, rfl, rfl, rfl, ?mode, ?held, rfl⟩
  case mode =>
    simp only [clearedState, hdispatching]
    cases (lookup s.cfg c).stayAwake <;> cases s.host.heldWake <;> simp
  case held => exact Bool.and_eq_true_iff

/-- Settles O42. -/
theorem hostDispatchIsHeldWhileWaiting : Obligations.HostDispatchIsHeldWhileWaiting := by
  intro s hwaiting
  rw [exec_eq_nextState _ s rfl, nextState_hostDispatch_held s (by simp [hwaiting])]

/-- The host hears the pulse of a tick if it waits (log 14). -/
theorem ticked_host_woken (x : TickInput) (s : State) :
    (ticked x s).host.woken = (s.host.mode == .waiting && (ticked x s).wake) := by
  rw [ticked_wake, ticked, tick_eq]
  exact Bool.false_or _

/-- Settles O38. -/
theorem hostWaitStartsDispatchOnWake : Obligations.HostWaitStartsDispatchOnWake := by
  refine ⟨?woken, ?held, ?tick⟩
  case woken =>
    intro s hrun hwaiting hwoken
    rw [exec_eq_nextState _ s rfl, nextState_hostWait_woken s ⟨hrun, hwaiting, hwoken⟩]
  case held =>
    intro s hcase
    have hheld : ¬(s.mode = .run ∧ s.host.mode = .waiting ∧ s.host.woken = true) := by
      rintro ⟨-, hwaiting, hwoken⟩
      rcases hcase with h | h
      · simp [hwaiting] at h
      · simp [hwoken] at h
    rw [exec_eq_nextState _ s rfl, nextState_hostWait_held s hheld]
  case tick =>
    intro s t r a o hrun ht
    have htick := exec_tick_eq_ticked ⟨r, a, o⟩ s hrun
    rw [TickInput.tick, ht] at htick
    injection htick with htick
    rw [htick, ticked_host_woken, Bool.and_eq_true, beq_iff_eq]

/-! ### The command between the read and the clear (R206) -/

/-- With `WAKE_LATCHED = false`, in the pass of the command `c`, or after it: no pulse is remembered, and as long as the host
dispatches it holds `c`, `LED` is `led` and no pulse brings it back. -/
structure InPassOf (cfg : Config) (c : Byte) (led : Bool) (s : State) : Prop where
  cfg : s.cfg = cfg
  run : s.mode = .run
  unheld : s.host.heldWake = false
  pass : s.host.mode = .dispatching → s.host.command = some c ∧ s.host.led = led ∧ s.host.woken = false

section
variable {cfg : Config} {c : Byte} {led : Bool} (hlatched : cfg.wakeLatched = false)

theorem inPassOf_of_same {s t : State} (h : InPassOf cfg c led s) (hcfg : t.cfg = s.cfg) (hmode : t.mode = s.mode)
    (hhost : t.host = s.host) : InPassOf cfg c led t where
  cfg := by rw [hcfg, h.cfg]
  run := by rw [hmode, h.run]
  unheld := by rw [hhost, h.unheld]
  pass := by rw [hhost]; exact h.pass

include hlatched in
theorem inPassOf_of_onlyHears {s t : State} (h : InPassOf cfg c led s) (hcfg : t.cfg = s.cfg)
    (hmode : t.mode = s.mode) (hhears : HostOnlyHears s t) : InPassOf cfg c led t := by
  obtain ⟨w, b, hhost, -, hkept⟩ := hhears
  refine ⟨by rw [hcfg, h.cfg], by rw [hmode, h.run], ?_, ?_⟩
  · simp [hhost, hostHears, h.unheld, h.cfg, hlatched]
  · intro hdispatching
    have hstill : s.host.mode = .dispatching := by rwa [hhost] at hdispatching
    obtain ⟨hcommand, hled, hwoken⟩ := h.pass hstill
    have hb : b = false := by
      cases b with
      | false => rfl
      | true => rw [(hkept rfl).1] at hwoken; cases hwoken
    simp [hhost, hostHears, hcommand, hled, hstill, hb]

/-- The end of the pass leaves the host waiting. -/
theorem clearedState_waiting {s : State} (h : InPassOf cfg c led s) (hasleep : (lookup cfg c).stayAwake = false) :
    (clearedState c s).host.mode = .waiting := by
  simp [clearedState, h.cfg, hasleep, h.unheld]

/-- The host's own operations go on with `c`: they do not read again, and the clear ends the pass. -/
theorem inPassOf_dispatched {s : State} (h : InPassOf cfg c led s) (hasleep : (lookup cfg c).stayAwake = false)
    (hdispatching : s.host.mode = .dispatching) : InPassOf cfg c led (dispatched s) := by
  obtain ⟨hcommand, hled, hwoken⟩ := h.pass hdispatching
  refine dispatched_induction s ?read ?busy ?send ?clear
  case read => exact fun hnone => by simp [hcommand] at hnone
  case busy => exact fun _ => inPassOf_of_same h rfl rfl rfl
  case send => exact fun v b _ _ _ => ⟨h.cfg, h.run, h.unheld, fun _ => ⟨hcommand, hled, hwoken⟩⟩
  case clear =>
    intro v hv
    obtain rfl : v = c := Option.some.inj (hv.symm.trans hcommand)
    refine ⟨h.cfg, h.run, ?_, fun hstill => ?_⟩
    · simp [clearedState, h.unheld]
    · rw [clearedState_waiting h hasleep] at hstill
      cases hstill

include hlatched in
/-- No operation but `POR` and the `HOST_WAIT` of a later pass leads out. -/
theorem inPassOf_nextState {s : State} (h : InPassOf cfg c led s) (hasleep : (lookup cfg c).stayAwake = false)
    (i : Instr) (hpor : i ≠ .por) (hwait : i ≠ .hostWait) : InPassOf cfg c led (nextState i s) := by
  cases i with
  | por => exact absurd rfl hpor
  | hostWait => exact absurd rfl hwait
  | init p r a =>
    rw [nextState_init_refused p r a s (by simp [h.run])]
    exact inPassOf_of_same h rfl rfl rfl
  | hostDispatch =>
    by_cases hd : s.mode = .run ∧ s.host.mode = .dispatching
    · rw [nextState_hostDispatch s hd]; exact inPassOf_dispatched h hasleep hd.2
    · rw [nextState_hostDispatch_held s hd]; exact inPassOf_of_same h rfl rfl rfl
  | tick r a o =>
    exact inPassOf_of_onlyHears hlatched h (nextState_cfg_script _ s).1 (nextState_tick_mode r a o s)
      (nextState_hostOnlyHears _ s (by nofun) (by nofun) (by nofun) (by nofun))
  | _ =>
    exact inPassOf_of_onlyHears hlatched h (nextState_cfg_script _ s).1
      (nextState_sameControl _ s (by nofun) (by nofun) (by nofun)).mode
      (nextState_hostOnlyHears _ s (by nofun) (by nofun) (by nofun) (by nofun))

include hlatched in
theorem inPassOf_runAll (ops : List Instr) {s u : State} (h : InPassOf cfg c led s)
    (hasleep : (lookup cfg c).stayAwake = false) (hops : ∀ i ∈ ops, i ≠ .por ∧ i ≠ .hostWait)
    (hu : runAll ops s = .next u) : InPassOf cfg c led u := by
  induction ops generalizing s with
  | nil =>
    cases hu
    exact h
  | cons i rest ih =>
    rw [runAll] at hu
    split at hu
    · next t ht =>
      obtain ⟨-, rfl⟩ := exec_next i s t ht
      obtain ⟨hpor, hwait⟩ := hops i (List.mem_cons_self ..)
      exact ih (inPassOf_nextState hlatched h hasleep i hpor hwait)
        (fun j hj => hops j (List.mem_cons_of_mem i hj)) hu
    · cases hu
    · cases hu

end

/-- Settles O56. -/
theorem commandBetweenReadAndClearIsLost : Obligations.CommandBetweenReadAndClearIsLost := by
  intro s u c ops hrun hlatched _ hwoken hheld hcommand hasleep hops hu hdispatching
  have hstart : InPassOf s.cfg c s.host.led s := ⟨rfl, hrun, hheld, fun _ => ⟨hcommand, rfl, hwoken⟩⟩
  have hpass := inPassOf_runAll hlatched ops hstart hasleep hops hu
  obtain ⟨hcommand', hled', hwoken'⟩ := hpass.pass hdispatching
  refine ⟨hcommand', hled', fun hend => ⟨_, exec_eq_nextState .hostDispatch u rfl, ?_⟩⟩
  rw [← hpass.cfg] at hend
  rw [nextState_hostDispatch u ⟨hpass.run, hdispatching⟩,
    dispatched_clear u c hcommand' (List.getElem?_eq_none hend)]
  refine ⟨congrArg Config.cmdIdle hpass.cfg, clearedState_waiting hpass hasleep, hled', ?_⟩
  have hheld' : ¬((clearedState c u).mode = .run ∧ (clearedState c u).host.mode = .waiting ∧
      (clearedState c u).host.woken = true) := by
    rintro ⟨-, -, hw⟩
    exact Bool.false_ne_true (hwoken'.symm.trans hw)
  rw [exec_eq_nextState _ _ rfl, nextState_hostWait_held _ hheld']

end Sys2Proof.Machine
end

section
/-! PROOFS. Refusals and free answers: what is refused outside `RUN` and in `FATAL`, and which answers are free (20_memory.md
R66, 60_exceptions.md R246, 30_encoding.md R103). -/

namespace Sys2Proof.Machine

theorem sameRegisters_silently (s : State) : SameRegisters s (silently s) := by constructor <;> rfl

/-- A free answer consumes draws and changes no register (log 5). -/
theorem sameRegisters_skipDraws (n : Nat) (r : Result) (s : State) :
    SameRegisters s { skipDraws n s with result := r } := by
  constructor <;> rfl

/-! ### Reset and `INIT` -/

/-- Settles O1. -/
theorem resetIsUninitialisedAndUnarmed : Obligations.ResetIsUninitialisedAndUnarmed :=
  fun _ => ⟨rfl, rfl, rfl, rfl, rfl, rfl, rfl, rfl⟩

/-- Settles O4: `startUp` resets the host but for `LED`; the trap draws `LED` and drops the pulse. -/
theorem hostEntersItsLoopAtInit : Obligations.HostEntersItsLoopAtInit := by
  constructor
  · intro s r a huninit
    exact ⟨_, exec_init_some s r a huninit, rfl, rfl⟩
  · intro s r a huninit
    exact ⟨_, exec_init_none s r a huninit, rfl, rfl⟩

/-! ### The fatal trap (60_exceptions.md R246) -/

/-- In `FATAL` no operation but `POR` writes a register or raises a pulse. -/
theorem nextState_fatal (i : Instr) (s : State) (hfatal : s.mode = .fatal) (hpor : i ≠ .por)
    (hpattern : isPattern i = false) :
    SameRegisters s (nextState i s) ∧ ((nextState i s).wake = true → s.wake = true) := by
  have hsilent : SameRegisters s (silently s) ∧ ((silently s).wake = true → s.wake = true) :=
    ⟨sameRegisters_silently s, id⟩
  have hrun : s.mode ≠ .run := by simp [hfatal]
  have hinjected (t : State) : unlessFatal s t = silently s := if_pos hfatal
  cases i with
  | por => exact absurd rfl hpor
  | frame | txsrPattern => cases hpattern
  | init p r a => rw [nextState_init_refused p r a s (by simp [hfatal])]; exact hsilent
  | send v => rw [nextState_send_off v s hrun]; exact hsilent
  | statusRead | cmdRead => rw [nextState, if_neg hrun]; exact ⟨sameRegisters_skipDraws 1 _ s, id⟩
  | cmdClear => rw [nextState, if_neg hrun]; exact hsilent
  | tick r a o => rw [nextState_tick_off r a o s hrun]; exact ⟨by constructor <;> rfl, nofun⟩
  | scheduleNext | reschedule | disable | txStep | rxStep | rxEdge | auxEdge | writeLine | configureEdgeInterrupt =>
    rw [nextState, hinjected]
    exact hsilent
  | fire c => cases c <;> rw [nextState, hinjected] <;> exact hsilent
  | otherIrq | clearInterruptFlags => exact hsilent
  | readLine => exact ⟨sameRegisters_skipDraws 1 _ s, id⟩
  | getCalibratedTrim => exact ⟨sameRegisters_skipDraws 2 _ s, id⟩
  | hostWait => rw [nextState_hostWait_held s (fun h => hrun h.1)]; exact hsilent
  | hostDispatch => rw [nextState_hostDispatch_held s (fun h => hrun h.1)]; exact hsilent

/-- Settles O5: the trap's registers are the draws of `unspecify`. -/
theorem fatalTrapEntryAndRefusals : Obligations.FatalTrapEntryAndRefusals := by
  refine ⟨?entry, ?draws, ?refusals⟩
  case entry =>
    intro s r a huninit
    exact ⟨_, exec_init_none s r a huninit, rfl, rfl, rfl, rfl, rfl, rfl, rfl, rfl⟩
  case draws =>
    intro s u r a huninit hcnt htx hrx
    refine ⟨blockDraws u, _, exec_init_none { s with draws := blockDraws u } r a huninit, ?_⟩
    rw [raiseFatal, unspecify_of_supplied { s with draws := blockDraws u } u [] (List.append_nil _).symm hcnt htx hrx]
    exact ⟨rfl, rfl, rfl, rfl, rfl, rfl⟩
  case refusals =>
    intro i s hfatal hpor hpattern
    exact ⟨_, exec_eq_nextState i s hpattern, nextState_fatal i s hfatal hpor hpattern⟩

/-! ### Outside `RUN` -/

/-- Settles O7. -/
theorem tickOutsideRunIsRefused : Obligations.TickOutsideRunIsRefused := by
  intro s r a o hoff
  exact ⟨_, exec_tick_off r a o s hoff, by constructor <;> rfl, rfl⟩

theorem exec_hostWait_off (s : State) (hoff : s.mode ≠ .run) : exec .hostWait s = .next (silently s) := by
  rw [exec_eq_nextState _ s rfl, nextState_hostWait_held s fun h => hoff h.1]

theorem exec_hostDispatch_off (s : State) (hoff : s.mode ≠ .run) : exec .hostDispatch s = .next (silently s) := by
  rw [exec_eq_nextState _ s rfl, nextState_hostDispatch_held s fun h => hoff h.1]

/-- Settles O8: a refused read answers the next draw, every other refusal nothing. -/
theorem hostOperationsOutsideRunAreRefused : Obligations.HostOperationsOutsideRunAreRefused := by
  intro s hoff
  refine ⟨?registers, ?send, ?status, ?cmd⟩
  case registers =>
    intro i hi
    simp only [List.mem_cons, List.not_mem_nil, or_false] at hi
    rcases hi with rfl | rfl | rfl | rfl | rfl
    · exact ⟨_, exec_statusRead_off s hoff, sameRegisters_skipDraws 1 _ s, rfl⟩
    · exact ⟨_, exec_cmdRead_off s hoff, sameRegisters_skipDraws 1 _ s, rfl⟩
    · exact ⟨_, exec_cmdClear_off s hoff, sameRegisters_silently s, rfl⟩
    · exact ⟨_, exec_hostWait_off s hoff, sameRegisters_silently s, rfl⟩
    · exact ⟨_, exec_hostDispatch_off s hoff, sameRegisters_silently s, rfl⟩
  case send =>
    intro v
    exact ⟨_, exec_send_off s v hoff, sameRegisters_silently s, rfl, nofun⟩
  case status =>
    intro b
    refine ⟨[b.toNat], _, exec_statusRead_off { s with draws := [b.toNat] } hoff, ?_⟩
    rw [drawBit_of_supplied (b := b) rfl]
  case cmd =>
    intro v
    refine ⟨[v.toNat], _, exec_cmdRead_off { s with draws := [v.toNat] } hoff, ?_⟩
    rw [drawBits_of_supplied (v := v) rfl]

/-! ### Free answers (45_collaborators.md R220, R224) -/

theorem exec_readLine (s : State) :
    exec .readLine s = .next { skipDraws 1 s with result := .level (drawBit s 0) } :=
  exec_eq_nextState .readLine s rfl

theorem exec_getCalibratedTrim (s : State) :
    exec .getCalibratedTrim s = .next { skipDraws 2 s with result := .trim (drawOption s 0) } :=
  exec_eq_nextState .getCalibratedTrim s rfl

/-- A value that may be absent takes two draws: whether it is there, and its value. -/
theorem drawOption_of_supplied {s : State} {k : Nat} (o : Option Nat) (hb : s.draws[k]? = some o.isSome.toNat)
    (hv : s.draws[k + 1]? = some (o.getD 0)) : drawOption s k = o := by
  rw [drawOption, drawBit_of_supplied hb, drawAt_of_supplied hv]
  cases o <;> rfl

/-- Settles O34. -/
theorem freeAnswersChangeNoRegister : Obligations.FreeAnswersChangeNoRegister := by
  refine ⟨fun s => ⟨?line, ?trim⟩, ?level, ?answer⟩
  case line => exact ⟨_, exec_readLine s, sameRegisters_skipDraws 1 _ s, rfl⟩
  case trim => exact ⟨_, exec_getCalibratedTrim s, sameRegisters_skipDraws 2 _ s, rfl⟩
  case level =>
    intro s b
    refine ⟨[b.toNat], _, exec_readLine { s with draws := [b.toNat] }, ?_⟩
    rw [drawBit_of_supplied (b := b) rfl]
  case answer =>
    intro s o _
    refine ⟨[o.isSome.toNat, o.getD 0], _, exec_getCalibratedTrim { s with draws := _ }, ?_⟩
    rw [drawOption_of_supplied o rfl rfl]

/-! ### The step, and the two rows that are no operations -/

/-- Settles O44. -/
theorem patternRowsAreNoOperations : Obligations.PatternRowsAreNoOperations :=
  fun _ _ => ⟨rfl, rfl⟩

/-- Settles O48: the four ways through `step`. -/
theorem stepRunsTheDecodedOperation : Obligations.StepRunsTheDecodedOperation := by
  refine ⟨?runs, ?unknown, ?empty, ?invalid⟩
  case runs =>
    intro s w rest i hvalid hscript hdecode
    rw [step, if_pos hvalid, hscript]
    simp only [hdecode]
  case unknown =>
    intro s w rest hvalid hscript hdecode
    rw [step, if_pos hvalid, hscript]
    simp only [hdecode]
  case empty =>
    intro s hvalid hscript
    rw [step, if_pos hvalid, hscript]
  case invalid =>
    intro s hinvalid
    rw [step, hinvalid, if_neg Bool.false_ne_true]

end Sys2Proof.Machine
end

section
/-! PROOFS. The Bit Clock and the engines field by field: what a tick does to each group of registers (40_bit_clock.md R120),
and the injected steps. -/

namespace Sys2Proof.Machine

/-! ### A tick, group by group (R120) -/

theorem answers_tick_run {s : State} {P : State → Prop} (r a : Level) (o : Bool) (hrun : s.mode = .run)
    (h : P (ticked ⟨r, a, o⟩ s)) : Answers (.tick r a o) s P :=
  ⟨_, exec_tick_run r a o s hrun, h⟩

/-- The counter operand of a match, as the statements write it. -/
theorem fires_next_iff (s : State) (arm : Bool) (cmp : Nat) :
    fires arm cmp (nextCnt s) = true ↔ arm = true ∧ (s.cnt + 1) % s.cfg.modulus = cmp :=
  fires_iff arm cmp (nextCnt s)

theorem sameSetting_ticked (x : TickInput) (s : State) : SameSetting s (ticked x s) := by
  rw [ticked, tick_eq]
  constructor <;> rfl

theorem ticked_host (x : TickInput) (s : State) :
    (ticked x s).host = hostHears s.cfg (ticked x s).wake { s.host with woken := false } := by
  rw [ticked_wake, ticked, tick_eq]

/-- The sources of step 6 are not used (R163; log 25). -/
theorem exec_tick_other (r a : Level) (o o' : Bool) (s : State) : exec (.tick r a o) s = exec (.tick r a o') s := by
  rw [exec, exec, execTick, execTick, tick_eq r a o, tick_eq r a o']

/-- Settles O10. -/
theorem tickCompletesAndKeepsTheSetting : Obligations.TickCompletesAndKeepsTheSetting := by
  intro s r a o hrun
  refine answers_tick_run r a o hrun
    ⟨sameSetting_ticked _ s, ?_, ?_, ticked_auxIe _ s, ?_, exec_tick_other r a o (!o) s⟩
  · rw [ticked, tick_eq]; rfl
  · rw [ticked, tick_eq]
  · rw [ticked_host, hostHears, Bool.false_or]

/-- Settles O11: a match of the armed channel is one transmit event, which splits on `TXCNT = 0`. -/
theorem tickServesTheTransmitChannel : Obligations.TickServesTheTransmitChannel := by
  intro s r a o hrun
  refine answers_tick_run r a o hrun ?_
  rw [ticked_tx, txTick]
  split_ifs with hmatch hfire hdone hdone hfire
  · rw [txEvent_of_done s.cfg s.tx hdone]
    exact ⟨rfl, rfl, rfl, rfl, rfl, rfl⟩
  · rw [txEvent_of_cells s.cfg s.tx hdone]
    exact ⟨rfl, rfl, rfl, rfl, shiftOut_toNat s.tx.sr, toNat_sub_one s.tx.cnt hdone⟩
  · exact absurd ((fires_next_iff s _ _).2 hmatch) hfire
  · exact absurd ((fires_next_iff s _ _).2 hmatch) hfire
  · exact absurd ((fires_next_iff s _ _).1 hfire) hmatch
  · rfl

/-- The receive registers after a tick with a receive match. -/
theorem ticked_rx_of_match {s : State} (x : TickInput) (harm : s.rx.arm = true)
    (hmatch : (s.cnt + 1) % s.cfg.modulus = s.rx.cmp) :
    (ticked x s).rx = rxEdged s.cfg (nextCnt s) x.rxd (rxEvent s.cfg x.rxd { s.rx with arm := false }) := by
  rw [ticked_rx, rxTick_of_fire _ _ _ _ ((fires_next_iff s _ _).2 ⟨harm, hmatch⟩)]

/-- The receive registers after a tick without one. -/
theorem ticked_rx_of_no_match {s : State} (x : TickInput)
    (h : ¬(s.rx.arm = true ∧ (s.cnt + 1) % s.cfg.modulus = s.rx.cmp)) :
    (ticked x s).rx = rxEdged s.cfg (nextCnt s) x.rxd s.rx := by
  rw [ticked_rx, rxTick_of_no_fire]
  rwa [← Bool.not_eq_true, fires_next_iff]

/-- Settles O12: the event takes one sample, and with the detection off no edge is seen after it. -/
theorem tickTakesASample : Obligations.TickTakesASample := by
  intro s r a o hrun harm hmatch hsamples hie
  refine answers_tick_run r a o hrun ?_
  have hleft : s.rx.cnt ≠ 0#4 := by rintro h; simp [h] at hsamples
  rw [ticked_rx_of_match ⟨r, a, o⟩ harm hmatch, rxEvent_of_samples s.cfg r { s.rx with arm := false } hsamples,
    rxEdged_of_quiet _ _ _ _ (by simp [edgeAccepted, hie])]
  exact ⟨rfl, rfl, hie, rfl, rfl, toNat_sub_one s.rx.cnt hleft, shiftIn_toNat r s.rx.sr⟩

/-- Settles O13: the completing event delivers the byte and re-enables the detection, which then sees the edge of this very
tick; the auxiliary edge is served last. -/
theorem tickCompletesAReception : Obligations.TickCompletesAReception := by
  intro s r a o hrun harm hmatch hlast
  refine answers_tick_run r a o hrun ?_
  have hcompletes : rxCompletes s = true := (rxCompletes_iff s).2 ⟨harm, hmatch, hlast⟩
  refine ⟨by rw [ticked_wake, hcompletes, Bool.true_or], ?cmd, ?regs⟩
  case cmd =>
    by_cases hedge : s.auxIe = true ∧ s.auxPrev = true ∧ a = false
    · rw [if_pos hedge, ticked_cmd]
      exact if_pos ((edgeAccepted_iff ..).2 hedge)
    · rw [if_neg hedge]
      intro i hi
      have haux : auxAccepted s a = false := (edgeAccepted_false_iff ..).2 hedge
      rw [ticked_cmd, haux, hcompletes, if_neg Bool.false_ne_true, if_pos rfl, receivedByte_getLsbD _ i hi,
        shiftIn_getLsbD, if_neg (by omega)]
  case regs =>
    rw [ticked_rx_of_match ⟨r, a, o⟩ harm hmatch, rxEvent_of_last s.cfg r { s.rx with arm := false } hlast, ticked_cnt]
    split_ifs with hedge
    · rw [rxEdged_of_edge]
      · rfl
      · exact (edgeAccepted_iff ..).2 ⟨rfl, hedge⟩
    · rw [rxEdged_of_quiet]
      · exact ⟨rfl, rfl, rfl, rfl, rfl, rfl, shiftIn_toNat r s.rx.sr⟩
      · exact (edgeAccepted_false_iff ..).2 fun h => hedge h.2

/-- Settles O14: without a receive match only the edge test of the tick is left. -/
theorem tickStartsAFrameOnlyOnAnAcceptedEdge : Obligations.TickStartsAFrameOnlyOnAnAcceptedEdge := by
  intro s r a o hrun hnomatch
  refine answers_tick_run r a o hrun ?_
  rw [ticked_rx_of_no_match ⟨r, a, o⟩ hnomatch, ticked_cnt]
  split_ifs with hedge
  · rw [rxEdged_of_edge _ _ _ _ ((edgeAccepted_iff ..).2 hedge)]
    rfl
  · rw [rxEdged_of_quiet _ _ _ _ ((edgeAccepted_false_iff ..).2 hedge)]

/-! ### Injected steps -/

/-- Outside `FATAL` an injected `RESCHEDULE` arms the channel and returns nothing (40_bit_clock.md R124). -/
theorem exec_reschedule_of_ne_fatal (c : Channel) (n : Nat) (s : State) (h : s.mode ≠ .fatal) :
    exec (.reschedule c n) s = .next { armAt c (counterAdd s.cfg (compareOf c s) n) s with result := .silent } :=
  injected_run (reschedule c n) s h

/-- Settles O16. -/
theorem scheduleNextArmsFromTheCounter : Obligations.ScheduleNextArmsFromTheCounter := by
  intro s n hrun
  have hmode : s.mode ≠ .fatal := by simp [hrun]
  exact ⟨exec_scheduleNext_of_ne_fatal .tx n s hmode, exec_scheduleNext_of_ne_fatal .rx n s hmode⟩

/-- Settles O17. -/
theorem rescheduleArmsFromTheCompareValue : Obligations.RescheduleArmsFromTheCompareValue := by
  intro s n hrun
  have hmode : s.mode ≠ .fatal := by simp [hrun]
  exact ⟨exec_reschedule_of_ne_fatal .tx n s hmode, exec_reschedule_of_ne_fatal .rx n s hmode⟩

/-- Outside `FATAL` an injected `FIRE(TX)` is a transmit event (R121). -/
theorem exec_fire_tx_of_ne_fatal (s : State) (h : s.mode ≠ .fatal) :
    exec (.fire .tx) s = .next (silently { s with tx := txEvent s.cfg s.tx }) := by
  rw [exec_eq_nextState _ s rfl, nextState, unlessFatal, if_neg h]

theorem exec_rxStep_of_ne_fatal (b : Level) (s : State) (h : s.mode ≠ .fatal) :
    exec (.rxStep b) s = .next (silently (rxStepped b s)) := by
  rw [exec_eq_nextState _ s rfl, nextState, unlessFatal, if_neg h]

/-- Outside `FATAL` an injected `FIRE(RX)` is `RX_STEP` of a drawn level on the disarmed channel (log 8). -/
theorem exec_fire_rx_of_ne_fatal (s : State) (h : s.mode ≠ .fatal) :
    exec (.fire .rx) s = exec (.rxStep (drawBit s 0)) (disable .rx (skipDraws 1 s)) := by
  rw [exec_rxStep_of_ne_fatal _ (disable .rx (skipDraws 1 s)) h, exec_eq_nextState _ s rfl, nextState, unlessFatal,
    if_neg h]

/-- Settles O19: both sides are the event on the disarmed channel. -/
theorem fireRunsTheStepFunction : Obligations.FireRunsTheStepFunction := by
  refine ⟨?tx, ?rx, ?any⟩
  case tx =>
    intro s hrun
    have hmode : s.mode ≠ .fatal := by simp [hrun]
    refine ⟨⟨_, exec_fire_tx_of_ne_fatal s hmode⟩, ?_⟩
    rw [exec_fire_tx_of_ne_fatal s hmode, ← txEvent_arm s.cfg s.tx false,
      exec_txStep_of_ne_fatal { s with tx.arm := false } hmode]
  case rx =>
    intro s hrun
    have hmode : s.mode ≠ .fatal := by simp [hrun]
    have hfire := exec_fire_rx_of_ne_fatal s hmode
    exact ⟨⟨_, hfire.trans (exec_rxStep_of_ne_fatal _ (disable .rx (skipDraws 1 s)) hmode)⟩, drawBit s 0, hfire⟩
  case any =>
    intro s b hrun
    have hfire := exec_fire_rx_of_ne_fatal { s with draws := [b.toNat] } (by simp [hrun])
    rw [drawBit_of_supplied (b := b) rfl] at hfire
    exact ⟨b.toNat, hfire⟩

/-- An injected `RX_STEP` with no sample left changes nothing (R180 (f); log 9). -/
theorem rxStepped_underflow (b : Level) (s : State) (h : s.rx.cnt = 0#4) : rxStepped b s = s := by
  have hdone : rxDone s.rx.cnt = false := by rw [h]; rfl
  have hevent : rxEvent s.cfg b s.rx = s.rx := if_pos ((rxUnderflows_iff s.rx.cnt).2 h)
  rw [rxStepped_eq, hdone, hevent, hostHears_false]
  rfl

/-- Settles O26: the receive event with samples left, with one left and with none. -/
theorem rxStepSamplesAndCompletes : Obligations.RxStepSamplesAndCompletes := by
  refine ⟨?sample, ?last, ?refused⟩
  case sample =>
    intro s b hrun hsamples
    have hdone : rxDone s.rx.cnt = false := by
      rw [← Bool.not_eq_true, rxDone_iff]
      rintro h
      simp [h] at hsamples
    have hleft : s.rx.cnt ≠ 0#4 := by rintro h; simp [h] at hsamples
    refine ⟨_, exec_rxStep_of_ne_fatal b s (by simp [hrun]), ?_⟩
    rw [rxStepped_eq, hdone, hostHears_false, rxEvent_of_samples s.cfg b s.rx hsamples]
    exact ⟨rfl, rfl, shiftIn_toNat b s.rx.sr, toNat_sub_one s.rx.cnt hleft, rfl, rfl, rfl, rfl⟩
  case last =>
    intro s b hrun hlast
    have hdone : rxDone s.rx.cnt = true := (rxDone_iff s.rx.cnt).2 hlast
    refine ⟨_, exec_rxStep_of_ne_fatal b s (by simp [hrun]), ?_⟩
    rw [rxStepped_eq, hdone, rxEvent_of_last s.cfg b s.rx hlast]
    refine ⟨rfl, rfl, shiftIn_toNat b s.rx.sr, rfl, rfl, rfl, rfl, receivedByte_toNat _, rfl, ?_⟩
    simp [hostHears]
  case refused =>
    intro s b hzero
    rw [exec_eq_nextState _ s rfl, nextState, rxStepped_underflow b s hzero, unlessFatal, ite_self]

/-- Settles O28. -/
theorem auxEdgePostsTheSentinel : Obligations.AuxEdgePostsTheSentinel := by
  intro s hrun
  exact injected_run auxEdge s (by simp [hrun])

/-! ### The command table (44_command_dispatcher.md R202) -/

/-- What a valid configuration says of the command table (00_scope.md R7; log 16). -/
theorem valid_table (c : Config) (hvalid : c.valid = true) :
    (0x00#8 :: Config.cmdToggle :: c.cmdTable.map CommandRow.code).Nodup ∧
      (0x00#8 :: c.cmdAux :: c.cmdTable.map CommandRow.code).Nodup ∧
      (∀ r ∈ c.cmdTable, Config.endsCrLf r.response = true) ∧ Config.endsCrLf c.respInvalid = true := by
  simp only [Config.valid, Config.tableValid, Bool.and_eq_true, decide_eq_true_eq, List.all_eq_true] at hvalid
  obtain ⟨⟨-, ⟨htoggle, haux⟩, hrows⟩, hinvalid⟩ := hvalid
  exact ⟨htoggle, haux, hrows, hinvalid⟩

theorem lookup_aux (c : Config) : lookup c c.cmdAux =
    { code := c.cmdAux, action := .idle, response := respButton, stayAwake := false } := if_pos rfl

theorem lookup_toggle (c : Config) (h : c.cmdAux ≠ Config.cmdToggle) : lookup c Config.cmdToggle =
    { code := Config.cmdToggle, action := .toggleLed, response := respToggled, stayAwake := false } := by
  rw [lookup, if_neg (Ne.symm h), if_pos rfl]

theorem lookup_find (c : Config) (v : Byte) (r : CommandRow) (haux : v ≠ c.cmdAux) (htoggle : v ≠ Config.cmdToggle)
    (hfind : c.cmdTable.find? (fun r => r.code == v) = some r) : lookup c v = r := by
  rw [lookup, if_neg haux, if_neg htoggle]
  simp only [hfind]

theorem lookup_invalid (c : Config) (v : Byte) (haux : v ≠ c.cmdAux) (htoggle : v ≠ Config.cmdToggle)
    (hfind : c.cmdTable.find? (fun r => r.code == v) = none) : lookup c v =
      { code := v, action := .idle, response := c.respInvalid, stayAwake := false } := by
  rw [lookup, if_neg haux, if_neg htoggle]
  simp only [hfind]

theorem find?_code_eq_none (c : Config) (v : Byte) (h : ∀ r ∈ c.cmdTable, r.code ≠ v) :
    c.cmdTable.find? (fun r => r.code == v) = none := by
  rw [List.find?_eq_none]
  intro r hr
  simpa using h r hr

/-- In a table without a repeated code the row of a code is the one found. -/
theorem find?_code_eq_some (rows : List CommandRow) (hnodup : (rows.map CommandRow.code).Nodup) (r : CommandRow)
    (hr : r ∈ rows) : rows.find? (fun r' => r'.code == r.code) = some r := by
  induction rows with
  | nil => cases hr
  | cons r' rows ih =>
    rw [List.map_cons, List.nodup_cons] at hnodup
    obtain ⟨hnew, hnodup⟩ := hnodup
    rcases List.mem_cons.1 hr with rfl | hr
    · exact List.find?_cons_of_pos (beq_self_eq_true r.code)
    · have hne : r'.code ≠ r.code := fun heq => hnew (heq ▸ List.mem_map_of_mem hr)
      rw [List.find?_cons_of_neg (by simpa using hne), ih hnodup hr]

theorem endsCrLf_iff (response : List Byte) :
    Config.endsCrLf response = true ↔ ∃ body, response = body ++ [0x0D#8, 0x0A#8] := by
  rw [Config.endsCrLf, List.isSuffixOf_iff_suffix]
  exact exists_congr fun _ => eq_comm

/-- Every response of a valid configuration ends in CR LF. -/
theorem lookup_endsCrLf (c : Config) (hvalid : c.valid = true) (v : Byte) :
    Config.endsCrLf (lookup c v).response = true := by
  obtain ⟨-, -, hrows, hinvalid⟩ := valid_table c hvalid
  by_cases haux : v = c.cmdAux
  · rw [haux, lookup_aux]
    exact (by decide : Config.endsCrLf respButton = true)
  · by_cases htoggle : v = Config.cmdToggle
    · rw [htoggle] at haux ⊢
      rw [lookup_toggle c (Ne.symm haux)]
      exact (by decide : Config.endsCrLf respToggled = true)
    · cases hfind : c.cmdTable.find? (fun r => r.code == v) with
      | none => rw [lookup_invalid c v haux htoggle hfind]; exact hinvalid
      | some r => rw [lookup_find c v r haux htoggle hfind]; exact hrows r (List.mem_of_find?_eq_some hfind)

/-- Settles O37. -/
theorem lookupFollowsTheCommandTable : Obligations.LookupFollowsTheCommandTable := by
  intro c hvalid
  obtain ⟨htoggle, haux, -, -⟩ := valid_table c hvalid
  simp only [List.nodup_cons, List.mem_cons, not_or] at htoggle haux
  obtain ⟨⟨hzero_toggle, hzero_rows⟩, htoggle_rows, hnodup⟩ := htoggle
  obtain ⟨⟨hzero_aux, -⟩, haux_rows, -⟩ := haux
  have hcode (r : CommandRow) (hr : r ∈ c.cmdTable) : r.code ∈ c.cmdTable.map CommandRow.code := List.mem_map_of_mem hr
  refine ⟨?toggle, ?_, ?_, ?_, ?rows, ?invalid, ?zero, by decide, by decide, ?crlf⟩
  case toggle =>
    intro h
    rw [show (0x72#8 : Byte) = Config.cmdToggle from rfl, lookup_toggle c h]
    exact ⟨rfl, rfl, rfl⟩
  · rw [lookup_aux]
  · rw [lookup_aux]
  · rw [lookup_aux]
  case rows =>
    intro r hr
    exact lookup_find c r.code r (fun h => haux_rows (h ▸ hcode r hr)) (fun h => htoggle_rows (h ▸ hcode r hr))
      (find?_code_eq_some c.cmdTable hnodup r hr)
  case invalid =>
    intro v hv hva hrows
    rw [lookup_invalid c v hva hv (find?_code_eq_none c v hrows)]
    exact ⟨rfl, rfl, rfl⟩
  case zero =>
    rw [lookup_invalid c 0x00#8 hzero_aux hzero_toggle
      (find?_code_eq_none c 0x00#8 fun r hr h => hzero_rows (h ▸ hcode r hr))]
  case crlf => exact fun v => (endsCrLf_iff _).1 (lookup_endsCrLf c hvalid v)

end Sys2Proof.Machine
end
